-- ==== Sys2Proof/Word.lean ====
section
/-! DEFINITION. The word types, and the names that an operand, a condition, a run state or an interrupt source can take
(spec/00_scope.md R10; spec/30_encoding.md R133 to R136). -/

namespace Sys2Proof

/-- One byte (R10). -/
abbrev Byte := BitVec 8

/-- One 16-bit word: an address, a register pair, SP or PC (R10). -/
abbrev Word := BitVec 16

/-- The seven 8-bit registers that a 3-bit operand field selects; field value 6 is `(HL)`, no register (R133). -/
inductive Reg8 where
  | b | c | d | e | h | l | a
  deriving DecidableEq, Repr

/-- The 16-bit registers of loads and arithmetic (R134). -/
inductive Reg16 where
  | bc | de | hl | sp
  deriving DecidableEq, Repr

/-- The register pairs of PUSH and POP (R135). -/
inductive RegStk where
  | bc | de | hl | af
  deriving DecidableEq, Repr

/-- The conditions of JP, JR, CALL and RET (R136). -/
inductive Cond where
  | nz | z | nc | c
  deriving DecidableEq, Repr

/-- The three run states of the core (10_state.md R42). -/
inductive Mode where
  | running | halted | stopped
  deriving DecidableEq, Repr

/-- The five interrupt sources, highest priority first (60_exceptions.md R610). -/
inductive InterruptSource where
  | vblank | lcdStatus | timer | serial | joypad
  deriving DecidableEq, Repr

end Sys2Proof
end

