-- ==== Sys2Proof/Config.lean ====
section
/-! DEFINITION. What a machine is built with: the parameters that the model takes as arguments, the cartridge's two writing
operations, and the free values, which have no body: the answers of a cartridge whose banking the spec leaves to it. The
machine's fixed tables stand where they are used: the power-on table in Machine/Memory.lean, the timer periods and the
vectors in Machine/Timer.lean and Machine/Ops.lean. -/

namespace Sys2Proof

/-- What the undefined primary opcodes do: the spec's parameter ILLEGAL_OPCODE_POLICY (00_scope.md R11). -/
inductive IllegalOpcodePolicy where
  | nop | stuck
  deriving DecidableEq, Repr

/-- The parameters that the model takes as arguments (00_scope.md R11). No step changes them. -/
structure Params where
  /-- GAP_READ_VALUE: the byte that every read of 0xFEA0-0xFEFF returns, fixed for the whole run (R76). -/
  gapReadValue : Byte
  /-- ILLEGAL_OPCODE_POLICY: `nop` by default (46_system.md R495). -/
  illegalOpcodePolicy : IllegalOpcodePolicy
  deriving DecidableEq, Repr

/-- A call of one of the cartridge's two writing operations (20_memory.md R90). -/
inductive CartWrite where
  | writeRAM (addr : Word) (v : Byte)
  | handleBankingWrite (addr : Word) (v : Byte)
  deriving DecidableEq, Repr

/-- `Cart.readROM` of a banked cartridge: an uninterpreted function of its ROM, of the writes it has received (newest
first) and of the address. FREE VALUE: nothing can evaluate it (20_memory.md R90; log 1). -/
opaque Config.cartReadROM : List Host.Cell → List CartWrite → Word → Byte

/-- `Cart.readRAM` of a banked cartridge, as `Config.cartReadROM`. FREE VALUE (20_memory.md R90, R92; log 1). -/
opaque Config.cartReadRAM : List Host.Cell → List CartWrite → Word → Byte

end Sys2Proof
end

