-- ==== Sys2Proof/Machine/State.lean ====
section
/-! DEFINITION. The state of the machine as plain data (spec/10_state.md, spec/20_memory.md R72), the reasons a step can stop,
and the state after reset (spec/10_state.md R57, spec/70_reset_and_hazards.md R700). INVENTORY.md lists every field. -/

namespace Sys2Proof.Machine

/-- Bytes by address, in one canonical form: addresses strictly rising, and no entry equal to what an unlisted address
reads as (`Memory.wf`). -/
abbrev Memory := List Host.Cell

/-- Which cartridge is plugged in. `romOnly` is the instance that the spec writes out; `banked` stands for every other
cartridge of the contract: it answers by the free values of Config (20_memory.md R90; log 1). -/
inductive CartKind where
  | romOnly | banked
  deriving DecidableEq, Repr

/-- The cartridge collaborator's state (20_memory.md R90). -/
structure Cart where
  kind   : CartKind
  /-- Its ROM bytes, never changed by the machine (R91). Of a `romOnly` cartridge: by CPU address, below 0x8000. -/
  rom    : Memory
  /-- The writes a `banked` cartridge has received, newest first: all that its answers can depend on beside its ROM. -/
  writes : List CartWrite
  deriving DecidableEq, Repr

/-- One move of the clock-driven peripherals: what one `Peripherals.advance` changes (60_exceptions.md R640; log 3). -/
structure PeriphMove where
  /-- ForceWrites, in order; one to a byte the peripherals do not own has no effect. -/
  ioWrites : List Host.Cell
  /-- The joypad's state from now on, if it changes. -/
  joypad   : Option (List (Byte × Byte))
  /-- The interrupt requests: bits 0, 1, 3 and 4 count. -/
  requests : Byte
  deriving DecidableEq, Repr

/-- The whole state of the machine. -/
structure State where
  /-- The accumulator (10_state.md R30, R31). -/
  a : Byte
  /-- The flags: Z bit 7, N bit 6, H bit 5, C bit 4 (R34). -/
  f : Byte
  b : Byte
  c : Byte
  d : Byte
  e : Byte
  h : Byte
  l : Byte
  /-- The stack pointer (R38). -/
  sp : Word
  /-- The program counter (R37). -/
  pc : Word
  /-- Interrupt Master Enable (R39). -/
  ime : Bool
  /-- EI's delayed enable (R40). -/
  eiPending : Bool
  /-- The run state (R42). -/
  mode : Mode
  /-- cyclesThisInstruction (R41). -/
  cycles : Nat
  /-- The cycles that the last step returned to the frame driver (60_exceptions.md R602, R603; log 9). -/
  returned : Nat
  /-- The free-running system counter (R43). -/
  sysCounter : Word
  /-- The cycles left before the next TIMA increment (R43; 60_exceptions.md R623). -/
  countdown : Int
  /-- VRAM, WRAM, OAM, the IO block, HRAM and IE, by CPU address (20_memory.md R72). -/
  mem : Memory
  /-- The cartridge (20_memory.md R90). -/
  cart : Cart
  /-- The joypad: its answer for each value of the stored P1 byte (20_memory.md R96; log 4). -/
  joy : List (Byte × Byte)
  /-- The moves that the peripherals are going to make, one for each advance; none left is no change (R640; log 3). -/
  periph : List PeriphMove
  /-- The parameters (00_scope.md R11). -/
  params : Params
  deriving DecidableEq, Repr

/-- Why the machine stops. -/
inductive Fault where
  /-- An undefined opcode under ILLEGAL_OPCODE_POLICY = stuck: "the step has no successor state" (46_system.md R495). Raised by
  the meaning of the undefined opcodes, under that policy alone. Safe: the run ends, and nothing is claimed after it. -/
  | stuckOnUndefinedOpcode (op : Byte)
  deriving DecidableEq, Repr

/-- Why an instruction has no meaning. -/
inductive Refusal where
  /-- An instruction that the model does not cover, by its mnemonic. Raised by an arm of `exec` alone; no arm does. Safe. -/
  | notModelled (mnemonic : String)
  deriving DecidableEq, Repr

/-- The state after power-on with a given cartridge, joypad, peripherals and parameters (70_reset_and_hazards.md R700). Memory
lists nothing: an unlisted address reads as the byte that the zero fill and the power-on table leave there. -/
def State.powerOn (cart : Cart) (joy : List (Byte × Byte)) (periph : List PeriphMove) (params : Params) : State where
  a := 0x01
  f := 0xB0
  b := 0x00
  c := 0x13
  d := 0x00
  e := 0xD8
  h := 0x01
  l := 0x4D
  sp := 0xFFFE
  pc := 0x0100
  ime := false
  eiPending := false
  mode := .running
  cycles := 0
  returned := 0
  sysCounter := 0x0000
  countdown := 1024
  mem := []
  cart := cart
  joy := joy
  periph := periph
  params := params

/-- The machine right after reset. Its cartridge has no program in it yet (log 2), its joypad has no key pressed (log 4), its
peripherals do nothing (log 3), and its parameters are 0xFF for the gap (log 5) and `nop` (00_scope.md R11). -/
def State.reset : State :=
  State.powerOn { kind := .romOnly, rom := [], writes := [] } [] [] { gapReadValue := 0xFF, illegalOpcodePolicy := .nop }

end Sys2Proof.Machine
end

