-- ==== Sys2Proof/Machine/Memory.lean ====
section
/-! DEFINITION. Bytes by address in one canonical form, and what an unlisted address reads as: the contents that reset leaves
(spec/10_state.md R58, spec/70_reset_and_hazards.md R700, R702). -/

namespace Sys2Proof.Machine

/-- POWER_ON_TABLE (70_reset_and_hazards.md R702). -/
def powerOnTable : List (Nat × Byte) :=
  [(0xFF05, 0x00), (0xFF06, 0x00), (0xFF07, 0x00), (0xFF10, 0x80), (0xFF11, 0xBF), (0xFF12, 0xF3), (0xFF14, 0xBF),
   (0xFF16, 0x3F), (0xFF17, 0x00), (0xFF19, 0xBF), (0xFF1A, 0x7F), (0xFF1B, 0xFF), (0xFF1C, 0x9F), (0xFF1E, 0xBF),
   (0xFF20, 0xFF), (0xFF21, 0x00), (0xFF22, 0x00), (0xFF23, 0xBF), (0xFF24, 0x77), (0xFF25, 0xF3), (0xFF26, 0xF1)] ++
  [(0xFF40, 0x91), (0xFF42, 0x00), (0xFF43, 0x00), (0xFF45, 0x00), (0xFF47, 0xFC), (0xFF48, 0xFF), (0xFF49, 0xFF),
   (0xFF4A, 0x00), (0xFF4B, 0x00), (0xFFFF, 0x00)]

/-- What an address that memory does not list reads as: the zero fill and then the power-on table (R58, R702). -/
def resetByte (k : Nat) : Byte :=
  if k < 0xFF00 then 0x00 else (powerOnTable.lookup k).getD 0x00

/-- The byte at a key. -/
def Memory.read : Memory → Nat → Byte
  | [], k => resetByte k
  | (k', v) :: m, k => if k = k' then v else Memory.read m k

/-- List a byte at its place. -/
def Memory.insert : Memory → Nat → Byte → Memory
  | [], k, v => [(k, v)]
  | (k', v') :: m, k, v =>
    if k < k' then (k, v) :: (k', v') :: m
    else if k = k' then (k, v) :: m
    else (k', v') :: Memory.insert m k v

/-- List a key no more. -/
def Memory.erase (m : Memory) (k : Nat) : Memory := m.filter (fun cell => cell.1 != k)

/-- Write a byte. Writing what an unlisted key reads as removes the entry. -/
def Memory.write (m : Memory) (k : Nat) (v : Byte) : Memory :=
  if v = resetByte k then Memory.erase m k else Memory.insert m k v

/-- The canonical form: keys strictly rising, and no entry equal to what an unlisted key reads as. -/
abbrev Memory.wf (m : Memory) : Prop :=
  m.Pairwise (fun x y => x.1 < y.1) ∧ ∀ cell ∈ m, cell.2 ≠ resetByte cell.1

/-- The CPU addresses whose bytes the bus itself holds (20_memory.md R72). -/
abbrev busOwned (k : Nat) : Prop :=
  (0x8000 ≤ k ∧ k < 0xA000) ∨ (0xC000 ≤ k ∧ k < 0xE000) ∨ (0xFE00 ≤ k ∧ k < 0xFEA0) ∨ (0xFF00 ≤ k ∧ k ≤ 0xFFFF)

/-- The byte of the bus at a CPU address that the bus owns. -/
def State.cell (s : State) (k : Nat) : Byte := Memory.read s.mem k

/-- The state with the bus's byte at a CPU address replaced. -/
def State.setCell (s : State) (k : Nat) (v : Byte) : State := { s with mem := Memory.write s.mem k v }

end Sys2Proof.Machine
end

