-- ==== Sys2Proof/Machine/Bus.lean ====
section
/-! DEFINITION. The memory bus (spec/20_memory.md): the twelve regions, the read and write primitives with their I/O side
effects, OAM DMA, and the contracts of the cartridge and the joypad. -/

namespace Sys2Proof.Machine

/-- The twelve regions of the address space (20_memory.md R71). -/
inductive Region where
  | rom0 | romx | vram | eram | wram0 | wramx | echo | oam | unused | io | hram | ie
  deriving DecidableEq, Repr

/-- The region of an address, tested from the highest to the lowest (R73). -/
def classifyAddress (a : Word) : Region :=
  if a.toNat = 0xFFFF then .ie
  else if 0xFF80 ≤ a.toNat then .hram
  else if 0xFF00 ≤ a.toNat then .io
  else if 0xFEA0 ≤ a.toNat then .unused
  else if 0xFE00 ≤ a.toNat then .oam
  else if 0xE000 ≤ a.toNat then .echo
  else if 0xD000 ≤ a.toNat then .wramx
  else if 0xC000 ≤ a.toNat then .wram0
  else if 0xA000 ≤ a.toNat then .eram
  else if 0x8000 ≤ a.toNat then .vram
  else if 0x4000 ≤ a.toNat then .romx
  else .rom0

/-- `Cart.readROM` (R90): the ROM-only instance answers its own byte; a banked one answers a free value. -/
def Cart.readROM (c : Cart) (a : Word) : Byte :=
  match c.kind with
  | .romOnly => Memory.read c.rom a.toNat
  | .banked => Config.cartReadROM c.rom c.writes a

/-- `Cart.readRAM` (R90): the ROM-only instance answers 0xFF. -/
def Cart.readRAM (c : Cart) (a : Word) : Byte :=
  match c.kind with
  | .romOnly => 0xFF
  | .banked => Config.cartReadRAM c.rom c.writes a

/-- The cartridge after one of its two writing operations (R90): the ROM-only instance stays as it is. -/
def Cart.receive (c : Cart) (w : CartWrite) : Cart :=
  match c.kind with
  | .romOnly => c
  | .banked => { c with writes := w :: c.writes }

/-- `Cart.writeRAM` (R90, R92). -/
def Cart.writeRAM (c : Cart) (a : Word) (v : Byte) : Cart := c.receive (.writeRAM a v)

/-- `Cart.handleBankingWrite` (R90, R91). -/
def Cart.handleBankingWrite (c : Cart) (a : Word) (v : Byte) : Cart := c.receive (.handleBankingWrite a v)

/-- `Joypad.getState(joy, p)` (R96): the answer that the joypad's state lists for the stored P1 byte; where it lists none,
no key is pressed (log 4). -/
def joypadAnswer (joy : List (Byte × Byte)) (p : Byte) : Byte := (joy.lookup p).getD (p ||| 0x0F)

/-- The stored P1 byte (10_state.md R45). -/
def State.p1 (s : State) : Byte := s.cell 0xFF00
/-- The stored DIV byte, kept equal to `sysCounter[15:8]` (R47). -/
def State.div (s : State) : Byte := s.cell 0xFF04
/-- TIMA (R48). -/
def State.tima (s : State) : Byte := s.cell 0xFF05
/-- TMA (R49). -/
def State.tma (s : State) : Byte := s.cell 0xFF06
/-- TAC (R50). -/
def State.tac (s : State) : Byte := s.cell 0xFF07
/-- IF (R51). -/
def State.ifReg (s : State) : Byte := s.cell 0xFF0F
/-- LY (R52). -/
def State.ly (s : State) : Byte := s.cell 0xFF44
/-- DMA (R53). -/
def State.dma (s : State) : Byte := s.cell 0xFF46
/-- IE (R54). -/
def State.ieReg (s : State) : Byte := s.cell 0xFFFF

/-- `period(r)`: the cycles per TIMA increment of each rate (60_exceptions.md R622). -/
def period (rate : BitVec 2) : Nat :=
  if rate = 0 then 1024 else if rate = 1 then 16 else if rate = 2 then 64 else 256

/-- The rate field of a TAC byte, bits 1-0 (10_state.md R50). -/
def tacRate (tac : Byte) : BitVec 2 := tac.extractLsb' 0 2

/-- The enable bit of a TAC byte, bit 2 (R50). -/
def tacEnabled (tac : Byte) : Bool := tac.getLsbD 2

/-- A read of the I/O block (20_memory.md R86). -/
def State.ioRead (s : State) (a : Word) : Byte :=
  if a.toNat = 0xFF00 then joypadAnswer s.joy s.p1
  else if a.toNat = 0xFF04 then Word.hi s.sysCounter
  else s.cell a.toNat

/-- `readByte`, `MemRead(a, 1)` (R80). It changes nothing. -/
def State.readByte (s : State) (a : Word) : Byte :=
  match classifyAddress a with
  | .ie | .hram | .oam | .wramx | .wram0 | .vram => s.cell a.toNat
  | .io => s.ioRead a
  | .unused => s.params.gapReadValue
  | .echo => s.cell (a.toNat - 0x2000)
  | .eram => s.cart.readRAM a
  | .romx | .rom0 => s.cart.readROM a

/-- `readWord`, `MemRead(a, 2)`: low byte at `a`, high byte at `a + 1` (R82). -/
def State.readWord (s : State) (a : Word) : Word := Word.ofBytes (s.readByte (a + 1)) (s.readByte a)

/-- `writeByte` in every region but the I/O block, whose writes are `ioWrite`'s (R81). -/
def State.writeOutsideIO (s : State) (a : Word) (v : Byte) : State :=
  match classifyAddress a with
  | .ie | .hram | .oam | .wramx | .wram0 | .vram => s.setCell a.toNat v
  | .io => s
  | .unused => s
  | .echo => s.setCell (a.toNat - 0x2000) v
  | .eram => { s with cart := s.cart.writeRAM a v }
  | .romx | .rom0 => { s with cart := s.cart.handleBankingWrite a v }

/-- One byte of an OAM DMA: byte `i` of the page goes to 0xFE00 + i, through the normal read and write path (R88). Its target
lies in OAM, outside the I/O block. -/
def State.oamDmaByte (s : State) (page : Byte) (i : Nat) : State :=
  s.writeOutsideIO (BitVec.ofNat 16 (0xFE00 + i)) (s.readByte (BitVec.ofNat 16 (page.toNat * 256 + i)))

/-- The bytes `i`, `i + 1`, … of an OAM DMA, `n` of them, in order. -/
def State.oamDmaFrom (s : State) (page : Byte) (i : Nat) : Nat → State
  | 0 => s
  | n + 1 => State.oamDmaFrom (s.oamDmaByte page i) page (i + 1) n

/-- `oamDma(v)`: the copy of 160 bytes to OAM (R88). -/
def State.oamDma (s : State) (page : Byte) : State := s.oamDmaFrom page 0 160

/-- A write to the I/O block, with the write masks and the side effects (R87). -/
def State.ioWrite (s : State) (a : Word) (v : Byte) : State :=
  if a.toNat = 0xFF00 then s.setCell 0xFF00 ((v &&& 0xF0) ||| (s.p1 &&& 0x0F))
  else if a.toNat = 0xFF04 then { s.setCell 0xFF04 0x00 with sysCounter := 0 }
  else if a.toNat = 0xFF07 then { s.setCell 0xFF07 v with countdown := period (tacRate v) }
  else if a.toNat = 0xFF44 then s.setCell 0xFF44 0x00
  else if a.toNat = 0xFF46 then (s.setCell 0xFF46 v).oamDma v
  else s.setCell a.toNat v

/-- `writeByte`, `MemWrite(a, 1, v)`: the CPU's write (R81). -/
def State.writeByte (s : State) (a : Word) (v : Byte) : State :=
  if classifyAddress a = .io then s.ioWrite a v else s.writeOutsideIO a v

/-- `writeWord`, `MemWrite(a, 2, w)`: the low byte at `a`, then the high byte at `a + 1` (R83). -/
def State.writeWord (s : State) (a : Word) (w : Word) : State :=
  (s.writeByte a (Word.lo w)).writeByte (a + 1) (Word.hi w)

/-- `ForceWrite(a, v)`: in the I/O block the byte is stored with no mask and no side effect; elsewhere it is `writeByte` (R84). -/
def State.forceWrite (s : State) (a : Word) (v : Byte) : State :=
  if classifyAddress a = .io then s.setCell a.toNat v else s.writeByte a v

/-- `RequestInterrupt(k)`: sets bit k of IF and touches no other bit (R85). -/
def State.requestInterrupt (s : State) (k : Nat) : State :=
  s.setCell 0xFF0F (s.ifReg ||| (1#8 <<< k))

end Sys2Proof.Machine
end

