-- ==== Sys2Proof/Machine/Flags.lean ====
section
/-! DEFINITION. The arithmetic, the shifts and every flag computation of the spec, as functions of bytes and words
(spec/42_alu8.md R300 to R304 and R350, spec/43_alu16.md R380 and R381, spec/44_rotate_shift_bit.md R405). -/

namespace Sys2Proof.Machine

/-- The flag byte `Z<<7 | N<<6 | H<<5 | C<<4`; its low nibble is 0 (10_state.md R34; R304). -/
def flagByte (z n h c : Bool) : Byte :=
  BitVec.ofBool z ++ BitVec.ofBool n ++ BitVec.ofBool h ++ BitVec.ofBool c ++ 0#4

/-- F.Z of a flag byte (R34). -/
def flagZ (f : Byte) : Bool := f.getLsbD 7
/-- F.N of a flag byte (R34). -/
def flagN (f : Byte) : Bool := f.getLsbD 6
/-- F.H of a flag byte (R34). -/
def flagH (f : Byte) : Bool := f.getLsbD 5
/-- F.C of a flag byte (R34). -/
def flagC (f : Byte) : Bool := f.getLsbD 4

/-- A result byte and the four flags that come with it. -/
structure Alu8 where
  res : Byte
  z : Bool
  n : Bool
  h : Bool
  c : Bool
  deriving DecidableEq, Repr

/-- The flag byte of a result (R304). -/
def Alu8.flags (r : Alu8) : Byte := flagByte r.z r.n r.h r.c

/-- `add8(a, b, cin)` (R300): exact on naturals, then narrowed. -/
def add8 (a b : Byte) (cin : Bool) : Alu8 :=
  let t := a.toNat + b.toNat + cin.toNat
  { res := BitVec.ofNat 8 t
    z := BitVec.ofNat 8 t == 0
    n := false
    h := decide (a.toNat % 16 + b.toNat % 16 + cin.toNat > 0xF)
    c := decide (t > 0xFF) }

/-- `sub8(a, b, cin)` (R301): exact on integers, then narrowed. -/
def sub8 (a b : Byte) (cin : Bool) : Alu8 :=
  let t : Int := (a.toNat : Int) - (b.toNat : Int) - (cin.toNat : Int)
  { res := BitVec.ofInt 8 t
    z := BitVec.ofInt 8 t == 0
    n := true
    h := decide (a.toNat % 16 < b.toNat % 16 + cin.toNat)
    c := decide (t < 0) }

/-- `and8` (R302). -/
def and8 (a b : Byte) : Alu8 := { res := a &&& b, z := a &&& b == 0, n := false, h := true, c := false }

/-- `or8` (R302). -/
def or8 (a b : Byte) : Alu8 := { res := a ||| b, z := a ||| b == 0, n := false, h := false, c := false }

/-- `xor8` (R302). -/
def xor8 (a b : Byte) : Alu8 := { res := a ^^^ b, z := a ^^^ b == 0, n := false, h := false, c := false }

/-- The eight accumulator operations, in the order of the field `ooo` (R304). -/
inductive AluOp where
  | add | adc | sub | sbc | and | xor | or | cp
  deriving DecidableEq, Repr

/-- The field value of an accumulator operation (R304). -/
def AluOp.code : AluOp → BitVec 3
  | .add => 0 | .adc => 1 | .sub => 2 | .sbc => 3 | .and => 4 | .xor => 5 | .or => 6 | .cp => 7

/-- The result and flags of an accumulator operation on A, its operand and the old carry (R310 to R333). -/
def AluOp.apply (op : AluOp) (a b : Byte) (carry : Bool) : Alu8 :=
  match op with
  | .add => add8 a b false
  | .adc => add8 a b carry
  | .sub => sub8 a b false
  | .sbc => sub8 a b carry
  | .and => and8 a b
  | .xor => xor8 a b
  | .or => or8 a b
  | .cp => sub8 a b false

/-- `inc8(v)` with the carry kept (R303). -/
def inc8 (v : Byte) (carry : Bool) : Alu8 :=
  { res := v + 1, z := v + 1 == 0, n := false, h := v &&& 0x0F == 0x0F, c := carry }

/-- `dec8(v)` with the carry kept (R303). -/
def dec8 (v : Byte) (carry : Bool) : Alu8 :=
  { res := v - 1, z := v - 1 == 0, n := true, h := v &&& 0x0F == 0x00, c := carry }

/-- DAA's correction of A from N, H and C: the exact sum, and the new carry (R350). -/
def daaAdjust (a : Byte) (n h c : Bool) : Int × Bool :=
  if n then
    ((a.toNat : Int) - (if c then 0x60 else 0) - (if h then 0x06 else 0), c)
  else
    ((a.toNat : Int) + (if c ∨ a.toNat > 0x99 then 0x60 else 0) + (if h ∨ a.toNat % 16 > 0x09 then 0x06 else 0),
      decide (c ∨ a.toNat > 0x99))

/-- DAA (R350): H cleared, N kept. -/
def daa (a : Byte) (n h c : Bool) : Alu8 :=
  let res := BitVec.ofInt 8 (daaAdjust a n h c).1
  { res := res, z := res == 0, n := n, h := false, c := (daaAdjust a n h c).2 }

/-- `add16(a, b)` without Z: the result, H and C (R380). -/
def add16 (a b : Word) : Word × Bool × Bool :=
  (BitVec.ofNat 16 (a.toNat + b.toNat),
    decide (a.toNat % 0x1000 + b.toNat % 0x1000 > 0x0FFF),
    decide (a.toNat + b.toNat > 0xFFFF))

/-- `sext_16(b)` (00_scope.md R14): values 0x80 to 0xFF become 0xFF80 to 0xFFFF. -/
def sext (b : Byte) : Word := b.signExtend 16

/-- `zext_16(b)` (R14). -/
def zext (b : Byte) : Word := b.zeroExtend 16

/-- `spAdd(sp, e)`: the result takes e as signed, H and C take it as unsigned, from the low byte (R381). -/
def spAdd (sp : Word) (e : Byte) : Word × Bool × Bool :=
  (sp + sext e,
    decide (sp.toNat % 16 + e.toNat % 16 > 0x0F),
    decide (sp.toNat % 256 + e.toNat > 0xFF))

/-- The eight rotates and shifts, in the order of the field `yyy` of the CB table (30_encoding.md R139). -/
inductive RotOp where
  | rlc | rrc | rl | rr | sla | sra | swap | srl
  deriving DecidableEq, Repr

/-- The field value of a rotate or shift (R139). -/
def RotOp.code : RotOp → BitVec 3
  | .rlc => 0 | .rrc => 1 | .rl => 2 | .rr => 3 | .sla => 4 | .sra => 5 | .swap => 6 | .srl => 7

/-- The result of a rotate or shift of a byte, with the old carry (R405). -/
def RotOp.res (op : RotOp) (v : Byte) (cf : Bool) : Byte :=
  match op with
  | .rlc => (v <<< 1) ||| (v >>> 7)
  | .rrc => (v >>> 1) ||| (v <<< 7)
  | .rl => (v <<< 1) ||| (BitVec.ofBool cf).zeroExtend 8
  | .rr => (v >>> 1) ||| ((BitVec.ofBool cf).zeroExtend 8 <<< 7)
  | .sla => v <<< 1
  | .sra => (v >>> 1) ||| (v &&& 0x80)
  | .swap => ((v &&& 0x0F) <<< 4) ||| (v >>> 4)
  | .srl => v >>> 1

/-- The carry out of a rotate or shift (R405). -/
def RotOp.carry (op : RotOp) (v : Byte) : Bool :=
  match op with
  | .rlc | .rl | .sla => v.getLsbD 7
  | .rrc | .rr | .sra | .srl => v.getLsbD 0
  | .swap => false

/-- The result and flags of a rotate or shift of the CB table: Z from the result, N and H cleared (44_rotate_shift_bit.md section 3). -/
def RotOp.apply (op : RotOp) (v : Byte) (cf : Bool) : Alu8 :=
  { res := op.res v cf, z := op.res v cf == 0, n := false, h := false, c := op.carry v }

/-- The flags of BIT: Z is the inverse of the bit, N cleared, H set, C kept (R430). -/
def bitFlags (v : Byte) (b : BitVec 3) (carry : Bool) : Byte := flagByte (!v.getLsbD b.toNat) false true carry

/-- A byte with bit b cleared (R432). -/
def clearBit (v : Byte) (b : BitVec 3) : Byte := v &&& ~~~(1#8 <<< b.toNat)

/-- A byte with bit b set (R434). -/
def setBit (v : Byte) (b : BitVec 3) : Byte := v ||| (1#8 <<< b.toNat)

end Sys2Proof.Machine
end

