-- ==== Sys2Proof/Machine/Operands.lean ====
section
/-! DEFINITION. The operands of an instruction: the registers and pairs that a field names, the condition, and the address of
each memory operand (spec/10_state.md R30 to R34, spec/30_encoding.md R133 to R137). -/

namespace Sys2Proof.Machine

/-- Write F: bits 3-0 are always 0 (10_state.md R34). -/
def State.setF (s : State) (v : Byte) : State := { s with f := v &&& 0xF0 }

/-- `r8(i)`, the register forms (30_encoding.md R133). -/
def State.r8 (s : State) : Reg8 → Byte
  | .b => s.b | .c => s.c | .d => s.d | .e => s.e | .h => s.h | .l => s.l | .a => s.a

/-- `r8(i) <- v`, the register forms (R133). -/
def State.setR8 (s : State) (r : Reg8) (v : Byte) : State :=
  match r with
  | .b => { s with b := v }
  | .c => { s with c := v }
  | .d => { s with d := v }
  | .e => { s with e := v }
  | .h => { s with h := v }
  | .l => { s with l := v }
  | .a => { s with a := v }

/-- The pair BC (10_state.md R32). -/
def State.bc (s : State) : Word := Word.ofBytes s.b s.c
/-- The pair DE (R32). -/
def State.de (s : State) : Word := Word.ofBytes s.d s.e
/-- The pair HL (R32). -/
def State.hl (s : State) : Word := Word.ofBytes s.h s.l
/-- The pair AF (R32). -/
def State.af (s : State) : Word := Word.ofBytes s.a s.f

/-- `HL <- w` (R32). -/
def State.setHL (s : State) (w : Word) : State := { s with h := Word.hi w, l := Word.lo w }

/-- `r16(p)` (30_encoding.md R134). -/
def State.r16 (s : State) : Reg16 → Word
  | .bc => s.bc | .de => s.de | .hl => s.hl | .sp => s.sp

/-- `r16(p) <- w` (R134). -/
def State.setR16 (s : State) (p : Reg16) (w : Word) : State :=
  match p with
  | .bc => { s with b := Word.hi w, c := Word.lo w }
  | .de => { s with d := Word.hi w, e := Word.lo w }
  | .hl => s.setHL w
  | .sp => { s with sp := w }

/-- `r16stk(p)` (R135). -/
def State.rstk (s : State) : RegStk → Word
  | .bc => s.bc | .de => s.de | .hl => s.hl | .af => s.af

/-- `r16stk(p) <- w`; of a word written to AF, F keeps bits 7-4 (R135; 41_load16.md R264). -/
def State.setRstk (s : State) (p : RegStk) (w : Word) : State :=
  match p with
  | .bc => { s with b := Word.hi w, c := Word.lo w }
  | .de => { s with d := Word.hi w, e := Word.lo w }
  | .hl => s.setHL w
  | .af => { s with a := Word.hi w }.setF (Word.lo w)

/-- `cond(cc)` (R136). -/
def State.cond (s : State) : Cond → Bool
  | .nz => !flagZ s.f
  | .z => flagZ s.f
  | .nc => !flagC s.f
  | .c => flagC s.f

/-- The address 0xFF00 + n of LDH, for an immediate and for C (R137). -/
def highPage (n : Byte) : Word := 0xFF00 + zext n

/-- The register that a 3-bit field selects; none is `(HL)` (R133). -/
def reg8Of (i : BitVec 3) : Option Reg8 :=
  if i = 0 then some .b else if i = 1 then some .c else if i = 2 then some .d else if i = 3 then some .e
  else if i = 4 then some .h else if i = 5 then some .l else if i = 6 then none else some .a

/-- The rotate or shift that the field `yyy` selects (R139). -/
def rotOpOf (y : BitVec 3) : RotOp :=
  if y = 0 then .rlc else if y = 1 then .rrc else if y = 2 then .rl else if y = 3 then .rr
  else if y = 4 then .sla else if y = 5 then .sra else if y = 6 then .swap else .srl

end Sys2Proof.Machine
end

