-- ==== Sys2Proof/Machine/Ops.lean ====
section
/-! DEFINITION. The operations that instructions and the step share: the cycle count, the stack, and taking an interrupt,
which is the one transfer of control that no instruction writes, with the return from it
(spec/00_scope.md R17 and R19, spec/60_exceptions.md R610 to R616). -/

namespace Sys2Proof.Machine

/-- What a step or a meaning answers. -/
abbrev Result := Host.Outcome State Fault Refusal

/-- Add an instruction's cost to cyclesThisInstruction (00_scope.md R19; 10_state.md R41). -/
def State.spend (s : State) (n : Nat) : State := { s with cycles := s.cycles + n }

/-- `push16(v)`: the high byte first, SP decremented before each byte (00_scope.md R17). -/
def State.push16 (s : State) (v : Word) : State :=
  let s1 := { s with sp := s.sp - 1 }.writeByte (s.sp - 1) (Word.hi v)
  { s1 with sp := s.sp - 2 }.writeByte (s.sp - 2) (Word.lo v)

/-- The word that `pop16()` yields: the low byte from SP, the high byte from SP + 1 (R17). -/
def State.popped (s : State) : Word := Word.ofBytes (s.readByte (s.sp + 1)) (s.readByte s.sp)

/-- SP after `pop16()` (R17). -/
def State.pop16 (s : State) : State := { s with sp := s.sp + 2 }

/-- The IF and IE bit of an interrupt source (60_exceptions.md R610). -/
def sourceBit : InterruptSource → Nat
  | .vblank => 0 | .lcdStatus => 1 | .timer => 2 | .serial => 3 | .joypad => 4

/-- The five sources, the highest priority first (R610, R612). -/
def sources : List InterruptSource := [.vblank, .lcdStatus, .timer, .serial, .joypad]

/-- `vector(k) = 0x0040 + 8 * k` (R612). -/
def vector (k : InterruptSource) : Word := BitVec.ofNat 16 (0x0040 + 8 * sourceBit k)

/-- The pending set `IF & IE & 0x1F` (R611). -/
def State.pending (s : State) : Byte := s.ifReg &&& s.ieReg &&& 0x1F

/-- `selectPendingInterrupt(requested, enabled)`: the first source that is both (R612). -/
def selectPendingInterrupt (requested enabled : Byte) : Option InterruptSource :=
  sources.find? (fun k => requested.getLsbD (sourceBit k) && enabled.getLsbD (sourceBit k))

/-- The cycles that a service entry adds (R613). -/
def serviceCycles : Nat := 20

/-- Taking an interrupt, `service(k)`: clear the request bit, push pc, jump to the vector, clear IME (R613). -/
def State.service (s : State) (k : InterruptSource) : State :=
  let s1 := s.setCell 0xFF0F (s.ifReg &&& ~~~(1#8 <<< sourceBit k))
  { s1.push16 s.pc with pc := vector k, ime := false }

/-- Returning from an interrupt: pop pc, set IME at once, drop a pending EI (45_control.md R462; 60_exceptions.md R616). -/
def State.returnFromInterrupt (s : State) : State :=
  { s.pop16 with pc := s.popped, ime := true, eiPending := false }

end Sys2Proof.Machine
end

