-- ==== Sys2Proof/Machine/Alu16.lean ====
section
/-! DEFINITION. The 16-bit arithmetic (spec/43_alu16.md R382 to R385). -/

namespace Sys2Proof.Machine

/-- `ADD HL, rr` (R382): Z kept. -/
def addHL (p : Reg16) (s : State) : Result :=
  let (res, h, c) := add16 s.hl (s.r16 p)
  .next (((s.setHL res).setF (flagByte (flagZ s.f) false h c)).spend 8)

/-- `INC rr` (R383): no flag. -/
def incPair (p : Reg16) (s : State) : Result := .next ((s.setR16 p (s.r16 p + 1)).spend 8)

/-- `DEC rr` (R384): no flag. -/
def decPair (p : Reg16) (s : State) : Result := .next ((s.setR16 p (s.r16 p - 1)).spend 8)

/-- `INC BC` (R383). -/
def execInc_BC (s : State) : Result := incPair .bc s

/-- `ADD HL,BC` (R382). -/
def execAdd_HL_BC (s : State) : Result := addHL .bc s

/-- `DEC BC` (R384). -/
def execDec_BC (s : State) : Result := decPair .bc s

/-- `INC DE` (R383). -/
def execInc_DE (s : State) : Result := incPair .de s

/-- `ADD HL,DE` (R382). -/
def execAdd_HL_DE (s : State) : Result := addHL .de s

/-- `DEC DE` (R384). -/
def execDec_DE (s : State) : Result := decPair .de s

/-- `INC HL` (R383). -/
def execInc_HL (s : State) : Result := incPair .hl s

/-- `ADD HL,HL` (R382). -/
def execAdd_HL_HL (s : State) : Result := addHL .hl s

/-- `DEC HL` (R384). -/
def execDec_HL (s : State) : Result := decPair .hl s

/-- `INC SP` (R383). -/
def execInc_SP (s : State) : Result := incPair .sp s

/-- `ADD HL,SP` (R382). -/
def execAdd_HL_SP (s : State) : Result := addHL .sp s

/-- `DEC SP` (R384). -/
def execDec_SP (s : State) : Result := decPair .sp s

/-- `ADD SP,e` (R385): Z and N cleared. -/
def execAdd_SP_e (e : Byte) (s : State) : Result :=
  let (res, h, c) := spAdd s.sp e
  .next (({ s with sp := res }.setF (flagByte false false h c)).spend 16)

end Sys2Proof.Machine
end

