-- ==== Sys2Proof/Machine/Alu8.lean ====
section
/-! DEFINITION. The 8-bit arithmetic and logic (spec/42_alu8.md R304 to R353). -/

namespace Sys2Proof.Machine

/-- An accumulator operation on operand `b`: A takes the result, but for CP, and F all four flags (R304, R310 to R333). -/
def aluAcc (op : AluOp) (b : Byte) (cost : Nat) (s : State) : Result :=
  let r := op.apply s.a b (flagC s.f)
  .next (({ s with a := if op = AluOp.cp then s.a else r.res }.setF r.flags).spend cost)

/-- The register form (R304). -/
def aluReg (op : AluOp) (r : Reg8) (s : State) : Result := aluAcc op (s.r8 r) 4 s

/-- The `(HL)` form (R304). -/
def aluMem (op : AluOp) (s : State) : Result := aluAcc op (s.readByte s.hl) 8 s

/-- The immediate form (R304). -/
def aluImm (op : AluOp) (n : Byte) (s : State) : Result := aluAcc op n 8 s

/-- `INC r` (R340). -/
def incReg (r : Reg8) (s : State) : Result :=
  let o := inc8 (s.r8 r) (flagC s.f)
  .next (((s.setR8 r o.res).setF o.flags).spend 4)

/-- `DEC r` (R342). -/
def decReg (r : Reg8) (s : State) : Result :=
  let o := dec8 (s.r8 r) (flagC s.f)
  .next (((s.setR8 r o.res).setF o.flags).spend 4)

/-- `INC B` (R340). -/
def execInc_B (s : State) : Result := incReg .b s

/-- `DEC B` (R342). -/
def execDec_B (s : State) : Result := decReg .b s

/-- `INC C` (R340). -/
def execInc_C (s : State) : Result := incReg .c s

/-- `DEC C` (R342). -/
def execDec_C (s : State) : Result := decReg .c s

/-- `INC D` (R340). -/
def execInc_D (s : State) : Result := incReg .d s

/-- `DEC D` (R342). -/
def execDec_D (s : State) : Result := decReg .d s

/-- `INC E` (R340). -/
def execInc_E (s : State) : Result := incReg .e s

/-- `DEC E` (R342). -/
def execDec_E (s : State) : Result := decReg .e s

/-- `INC H` (R340). -/
def execInc_H (s : State) : Result := incReg .h s

/-- `DEC H` (R342). -/
def execDec_H (s : State) : Result := decReg .h s

/-- `DAA` (R350): N kept, H cleared. -/
def execDaa (s : State) : Result :=
  let o := Sys2Proof.Machine.daa s.a (flagN s.f) (flagH s.f) (flagC s.f)
  .next (({ s with a := o.res }.setF o.flags).spend 4)

/-- `INC L` (R340). -/
def execInc_L (s : State) : Result := incReg .l s

/-- `DEC L` (R342). -/
def execDec_L (s : State) : Result := decReg .l s

/-- `CPL` (R351): Z and C kept. -/
def execCpl (s : State) : Result :=
  .next (({ s with a := ~~~s.a }.setF (flagByte (flagZ s.f) true true (flagC s.f))).spend 4)

/-- `INC (HL)` (R341): one read, one write; C kept. -/
def execInc_mHL (s : State) : Result :=
  let o := inc8 (s.readByte s.hl) (flagC s.f)
  .next (((s.writeByte s.hl o.res).setF o.flags).spend 12)

/-- `DEC (HL)` (R343): one read, one write; C kept. -/
def execDec_mHL (s : State) : Result :=
  let o := dec8 (s.readByte s.hl) (flagC s.f)
  .next (((s.writeByte s.hl o.res).setF o.flags).spend 12)

/-- `SCF` (R352): Z kept. -/
def execScf (s : State) : Result := .next ((s.setF (flagByte (flagZ s.f) false false true)).spend 4)

/-- `INC A` (R340). -/
def execInc_A (s : State) : Result := incReg .a s

/-- `DEC A` (R342). -/
def execDec_A (s : State) : Result := decReg .a s

/-- `CCF` (R353): Z kept. -/
def execCcf (s : State) : Result := .next ((s.setF (flagByte (flagZ s.f) false false (!flagC s.f))).spend 4)

/-- `ADD A,B` (R310). -/
def execAdd_A_B (s : State) : Result := aluReg .add .b s

/-- `ADD A,C` (R310). -/
def execAdd_A_C (s : State) : Result := aluReg .add .c s

/-- `ADD A,D` (R310). -/
def execAdd_A_D (s : State) : Result := aluReg .add .d s

/-- `ADD A,E` (R310). -/
def execAdd_A_E (s : State) : Result := aluReg .add .e s

/-- `ADD A,H` (R310). -/
def execAdd_A_H (s : State) : Result := aluReg .add .h s

/-- `ADD A,L` (R310). -/
def execAdd_A_L (s : State) : Result := aluReg .add .l s

/-- `ADD A,(HL)` (R311). -/
def execAdd_A_mHL (s : State) : Result := aluMem .add s

/-- `ADD A,A` (R310). -/
def execAdd_A_A (s : State) : Result := aluReg .add .a s

/-- `ADC A,B` (R313). -/
def execAdc_A_B (s : State) : Result := aluReg .adc .b s

/-- `ADC A,C` (R313). -/
def execAdc_A_C (s : State) : Result := aluReg .adc .c s

/-- `ADC A,D` (R313). -/
def execAdc_A_D (s : State) : Result := aluReg .adc .d s

/-- `ADC A,E` (R313). -/
def execAdc_A_E (s : State) : Result := aluReg .adc .e s

/-- `ADC A,H` (R313). -/
def execAdc_A_H (s : State) : Result := aluReg .adc .h s

/-- `ADC A,L` (R313). -/
def execAdc_A_L (s : State) : Result := aluReg .adc .l s

/-- `ADC A,(HL)` (R314). -/
def execAdc_A_mHL (s : State) : Result := aluMem .adc s

/-- `ADC A,A` (R313). -/
def execAdc_A_A (s : State) : Result := aluReg .adc .a s

/-- `SUB B` (R316). -/
def execSub_B (s : State) : Result := aluReg .sub .b s

/-- `SUB C` (R316). -/
def execSub_C (s : State) : Result := aluReg .sub .c s

/-- `SUB D` (R316). -/
def execSub_D (s : State) : Result := aluReg .sub .d s

/-- `SUB E` (R316). -/
def execSub_E (s : State) : Result := aluReg .sub .e s

/-- `SUB H` (R316). -/
def execSub_H (s : State) : Result := aluReg .sub .h s

/-- `SUB L` (R316). -/
def execSub_L (s : State) : Result := aluReg .sub .l s

/-- `SUB (HL)` (R317). -/
def execSub_mHL (s : State) : Result := aluMem .sub s

/-- `SUB A` (R316). -/
def execSub_A (s : State) : Result := aluReg .sub .a s

/-- `SBC A,B` (R319). -/
def execSbc_A_B (s : State) : Result := aluReg .sbc .b s

/-- `SBC A,C` (R319). -/
def execSbc_A_C (s : State) : Result := aluReg .sbc .c s

/-- `SBC A,D` (R319). -/
def execSbc_A_D (s : State) : Result := aluReg .sbc .d s

/-- `SBC A,E` (R319). -/
def execSbc_A_E (s : State) : Result := aluReg .sbc .e s

/-- `SBC A,H` (R319). -/
def execSbc_A_H (s : State) : Result := aluReg .sbc .h s

/-- `SBC A,L` (R319). -/
def execSbc_A_L (s : State) : Result := aluReg .sbc .l s

/-- `SBC A,(HL)` (R320). -/
def execSbc_A_mHL (s : State) : Result := aluMem .sbc s

/-- `SBC A,A` (R319). -/
def execSbc_A_A (s : State) : Result := aluReg .sbc .a s

/-- `AND B` (R322). -/
def execAnd_B (s : State) : Result := aluReg .and .b s

/-- `AND C` (R322). -/
def execAnd_C (s : State) : Result := aluReg .and .c s

/-- `AND D` (R322). -/
def execAnd_D (s : State) : Result := aluReg .and .d s

/-- `AND E` (R322). -/
def execAnd_E (s : State) : Result := aluReg .and .e s

/-- `AND H` (R322). -/
def execAnd_H (s : State) : Result := aluReg .and .h s

/-- `AND L` (R322). -/
def execAnd_L (s : State) : Result := aluReg .and .l s

/-- `AND (HL)` (R323). -/
def execAnd_mHL (s : State) : Result := aluMem .and s

/-- `AND A` (R322). -/
def execAnd_A (s : State) : Result := aluReg .and .a s

/-- `XOR B` (R325). -/
def execXor_B (s : State) : Result := aluReg .xor .b s

/-- `XOR C` (R325). -/
def execXor_C (s : State) : Result := aluReg .xor .c s

/-- `XOR D` (R325). -/
def execXor_D (s : State) : Result := aluReg .xor .d s

/-- `XOR E` (R325). -/
def execXor_E (s : State) : Result := aluReg .xor .e s

/-- `XOR H` (R325). -/
def execXor_H (s : State) : Result := aluReg .xor .h s

/-- `XOR L` (R325). -/
def execXor_L (s : State) : Result := aluReg .xor .l s

/-- `XOR (HL)` (R326). -/
def execXor_mHL (s : State) : Result := aluMem .xor s

/-- `XOR A` (R325). -/
def execXor_A (s : State) : Result := aluReg .xor .a s

/-- `OR B` (R328). -/
def execOr_B (s : State) : Result := aluReg .or .b s

/-- `OR C` (R328). -/
def execOr_C (s : State) : Result := aluReg .or .c s

/-- `OR D` (R328). -/
def execOr_D (s : State) : Result := aluReg .or .d s

/-- `OR E` (R328). -/
def execOr_E (s : State) : Result := aluReg .or .e s

/-- `OR H` (R328). -/
def execOr_H (s : State) : Result := aluReg .or .h s

/-- `OR L` (R328). -/
def execOr_L (s : State) : Result := aluReg .or .l s

/-- `OR (HL)` (R329). -/
def execOr_mHL (s : State) : Result := aluMem .or s

/-- `OR A` (R328). -/
def execOr_A (s : State) : Result := aluReg .or .a s

/-- `CP B` (R331). -/
def execCp_B (s : State) : Result := aluReg .cp .b s

/-- `CP C` (R331). -/
def execCp_C (s : State) : Result := aluReg .cp .c s

/-- `CP D` (R331). -/
def execCp_D (s : State) : Result := aluReg .cp .d s

/-- `CP E` (R331). -/
def execCp_E (s : State) : Result := aluReg .cp .e s

/-- `CP H` (R331). -/
def execCp_H (s : State) : Result := aluReg .cp .h s

/-- `CP L` (R331). -/
def execCp_L (s : State) : Result := aluReg .cp .l s

/-- `CP (HL)` (R332). -/
def execCp_mHL (s : State) : Result := aluMem .cp s

/-- `CP A` (R331). -/
def execCp_A (s : State) : Result := aluReg .cp .a s

/-- `ADD A,n` (R312). -/
def execAdd_A_n (n : Byte) (s : State) : Result := aluImm .add n s

/-- `ADC A,n` (R315). -/
def execAdc_A_n (n : Byte) (s : State) : Result := aluImm .adc n s

/-- `SUB n` (R318). -/
def execSub_n (n : Byte) (s : State) : Result := aluImm .sub n s

/-- `SBC A,n` (R321). -/
def execSbc_A_n (n : Byte) (s : State) : Result := aluImm .sbc n s

/-- `AND n` (R324). -/
def execAnd_n (n : Byte) (s : State) : Result := aluImm .and n s

/-- `XOR n` (R327). -/
def execXor_n (n : Byte) (s : State) : Result := aluImm .xor n s

/-- `OR n` (R330). -/
def execOr_n (n : Byte) (s : State) : Result := aluImm .or n s

/-- `CP n` (R333). -/
def execCp_n (n : Byte) (s : State) : Result := aluImm .cp n s

end Sys2Proof.Machine
end

