-- ==== Sys2Proof/Machine/Rotate.lean ====
section
/-! DEFINITION. The rotates and shifts (spec/44_rotate_shift_bit.md R400 to R425). -/

namespace Sys2Proof.Machine

/-- The four accumulator rotates: Z cleared even when the result is 0 (R400 to R403; 90_conflicts.md C3). -/
def rotAcc (op : RotOp) (s : State) : Result :=
  .next (({ s with a := op.res s.a (flagC s.f) }.setF (flagByte false false false (op.carry s.a))).spend 4)

/-- A rotate or shift of a register (R410, R412, R414, R416, R418, R420, R422, R424). -/
def rotReg (op : RotOp) (r : Reg8) (s : State) : Result :=
  let o := op.apply (s.r8 r) (flagC s.f)
  .next (((s.setR8 r o.res).setF o.flags).spend 8)

/-- A rotate or shift of the byte at HL: one read, then one write (R411, R413, R415, R417, R419, R421, R423, R425). -/
def rotMem (op : RotOp) (s : State) : Result :=
  let o := op.apply (s.readByte s.hl) (flagC s.f)
  .next (((s.writeByte s.hl o.res).setF o.flags).spend 16)

/-- `RLCA` (R400). -/
def execRlca (s : State) : Result := rotAcc .rlc s

/-- `RRCA` (R401). -/
def execRrca (s : State) : Result := rotAcc .rrc s

/-- `RLA` (R402). -/
def execRla (s : State) : Result := rotAcc .rl s

/-- `RRA` (R403). -/
def execRra (s : State) : Result := rotAcc .rr s

/-- `RLC B` (R410). -/
def execRlc_B (s : State) : Result := rotReg .rlc .b s

/-- `RLC C` (R410). -/
def execRlc_C (s : State) : Result := rotReg .rlc .c s

/-- `RLC D` (R410). -/
def execRlc_D (s : State) : Result := rotReg .rlc .d s

/-- `RLC E` (R410). -/
def execRlc_E (s : State) : Result := rotReg .rlc .e s

/-- `RLC H` (R410). -/
def execRlc_H (s : State) : Result := rotReg .rlc .h s

/-- `RLC L` (R410). -/
def execRlc_L (s : State) : Result := rotReg .rlc .l s

/-- `RLC (HL)` (R411). -/
def execRlc_mHL (s : State) : Result := rotMem .rlc s

/-- `RLC A` (R410). -/
def execRlc_A (s : State) : Result := rotReg .rlc .a s

/-- `RRC B` (R412). -/
def execRrc_B (s : State) : Result := rotReg .rrc .b s

/-- `RRC C` (R412). -/
def execRrc_C (s : State) : Result := rotReg .rrc .c s

/-- `RRC D` (R412). -/
def execRrc_D (s : State) : Result := rotReg .rrc .d s

/-- `RRC E` (R412). -/
def execRrc_E (s : State) : Result := rotReg .rrc .e s

/-- `RRC H` (R412). -/
def execRrc_H (s : State) : Result := rotReg .rrc .h s

/-- `RRC L` (R412). -/
def execRrc_L (s : State) : Result := rotReg .rrc .l s

/-- `RRC (HL)` (R413). -/
def execRrc_mHL (s : State) : Result := rotMem .rrc s

/-- `RRC A` (R412). -/
def execRrc_A (s : State) : Result := rotReg .rrc .a s

/-- `RL B` (R414). -/
def execRl_B (s : State) : Result := rotReg .rl .b s

/-- `RL C` (R414). -/
def execRl_C (s : State) : Result := rotReg .rl .c s

/-- `RL D` (R414). -/
def execRl_D (s : State) : Result := rotReg .rl .d s

/-- `RL E` (R414). -/
def execRl_E (s : State) : Result := rotReg .rl .e s

/-- `RL H` (R414). -/
def execRl_H (s : State) : Result := rotReg .rl .h s

/-- `RL L` (R414). -/
def execRl_L (s : State) : Result := rotReg .rl .l s

/-- `RL (HL)` (R415). -/
def execRl_mHL (s : State) : Result := rotMem .rl s

/-- `RL A` (R414). -/
def execRl_A (s : State) : Result := rotReg .rl .a s

/-- `RR B` (R416). -/
def execRr_B (s : State) : Result := rotReg .rr .b s

/-- `RR C` (R416). -/
def execRr_C (s : State) : Result := rotReg .rr .c s

/-- `RR D` (R416). -/
def execRr_D (s : State) : Result := rotReg .rr .d s

/-- `RR E` (R416). -/
def execRr_E (s : State) : Result := rotReg .rr .e s

/-- `RR H` (R416). -/
def execRr_H (s : State) : Result := rotReg .rr .h s

/-- `RR L` (R416). -/
def execRr_L (s : State) : Result := rotReg .rr .l s

/-- `RR (HL)` (R417). -/
def execRr_mHL (s : State) : Result := rotMem .rr s

/-- `RR A` (R416). -/
def execRr_A (s : State) : Result := rotReg .rr .a s

/-- `SLA B` (R418). -/
def execSla_B (s : State) : Result := rotReg .sla .b s

/-- `SLA C` (R418). -/
def execSla_C (s : State) : Result := rotReg .sla .c s

/-- `SLA D` (R418). -/
def execSla_D (s : State) : Result := rotReg .sla .d s

/-- `SLA E` (R418). -/
def execSla_E (s : State) : Result := rotReg .sla .e s

/-- `SLA H` (R418). -/
def execSla_H (s : State) : Result := rotReg .sla .h s

/-- `SLA L` (R418). -/
def execSla_L (s : State) : Result := rotReg .sla .l s

/-- `SLA (HL)` (R419). -/
def execSla_mHL (s : State) : Result := rotMem .sla s

/-- `SLA A` (R418). -/
def execSla_A (s : State) : Result := rotReg .sla .a s

/-- `SRA B` (R420). -/
def execSra_B (s : State) : Result := rotReg .sra .b s

/-- `SRA C` (R420). -/
def execSra_C (s : State) : Result := rotReg .sra .c s

/-- `SRA D` (R420). -/
def execSra_D (s : State) : Result := rotReg .sra .d s

/-- `SRA E` (R420). -/
def execSra_E (s : State) : Result := rotReg .sra .e s

/-- `SRA H` (R420). -/
def execSra_H (s : State) : Result := rotReg .sra .h s

/-- `SRA L` (R420). -/
def execSra_L (s : State) : Result := rotReg .sra .l s

/-- `SRA (HL)` (R421). -/
def execSra_mHL (s : State) : Result := rotMem .sra s

/-- `SRA A` (R420). -/
def execSra_A (s : State) : Result := rotReg .sra .a s

/-- `SWAP B` (R422). -/
def execSwap_B (s : State) : Result := rotReg .swap .b s

/-- `SWAP C` (R422). -/
def execSwap_C (s : State) : Result := rotReg .swap .c s

/-- `SWAP D` (R422). -/
def execSwap_D (s : State) : Result := rotReg .swap .d s

/-- `SWAP E` (R422). -/
def execSwap_E (s : State) : Result := rotReg .swap .e s

/-- `SWAP H` (R422). -/
def execSwap_H (s : State) : Result := rotReg .swap .h s

/-- `SWAP L` (R422). -/
def execSwap_L (s : State) : Result := rotReg .swap .l s

/-- `SWAP (HL)` (R423). -/
def execSwap_mHL (s : State) : Result := rotMem .swap s

/-- `SWAP A` (R422). -/
def execSwap_A (s : State) : Result := rotReg .swap .a s

/-- `SRL B` (R424). -/
def execSrl_B (s : State) : Result := rotReg .srl .b s

/-- `SRL C` (R424). -/
def execSrl_C (s : State) : Result := rotReg .srl .c s

/-- `SRL D` (R424). -/
def execSrl_D (s : State) : Result := rotReg .srl .d s

/-- `SRL E` (R424). -/
def execSrl_E (s : State) : Result := rotReg .srl .e s

/-- `SRL H` (R424). -/
def execSrl_H (s : State) : Result := rotReg .srl .h s

/-- `SRL L` (R424). -/
def execSrl_L (s : State) : Result := rotReg .srl .l s

/-- `SRL (HL)` (R425). -/
def execSrl_mHL (s : State) : Result := rotMem .srl s

/-- `SRL A` (R424). -/
def execSrl_A (s : State) : Result := rotReg .srl .a s

end Sys2Proof.Machine
end

