-- ==== Sys2Proof/Machine/Bits.lean ====
section
/-! DEFINITION. The bit operations of the CB table, and the table as a whole by its fields (spec/44_rotate_shift_bit.md R430 to
R435, spec/30_encoding.md R132, R139, R142). -/

namespace Sys2Proof.Machine

/-- `BIT b, r` (R430). -/
def bitReg (b : BitVec 3) (r : Reg8) (s : State) : Result := .next ((s.setF (bitFlags (s.r8 r) b (flagC s.f))).spend 8)

/-- `BIT b, (HL)` (R431): one read, no write. -/
def bitMem (b : BitVec 3) (s : State) : Result := .next ((s.setF (bitFlags (s.readByte s.hl) b (flagC s.f))).spend 12)

/-- `RES b, r` (R432): no flag. -/
def resReg (b : BitVec 3) (r : Reg8) (s : State) : Result := .next ((s.setR8 r (clearBit (s.r8 r) b)).spend 8)

/-- `RES b, (HL)` (R433): the write happens even when the value does not change. -/
def resMem (b : BitVec 3) (s : State) : Result := .next ((s.writeByte s.hl (clearBit (s.readByte s.hl) b)).spend 16)

/-- `SET b, r` (R434): no flag. -/
def setReg (b : BitVec 3) (r : Reg8) (s : State) : Result := .next ((s.setR8 r (setBit (s.r8 r) b)).spend 8)

/-- `SET b, (HL)` (R435). -/
def setMem (b : BitVec 3) (s : State) : Result := .next ((s.writeByte s.hl (setBit (s.readByte s.hl) b)).spend 16)

/-- The entry of the CB table that a byte selects, read by its fields `xxyyyzzz`: x the group, y the operation or the bit, z the
operand (30_encoding.md R132, R139). The flat table of the decoder and this nested one agree. -/
def runCB (op2 : Byte) (s : State) : Result :=
  let x := op2.extractLsb' 6 2
  let y := op2.extractLsb' 3 3
  match reg8Of (op2.extractLsb' 0 3) with
  | some r =>
    if x = 0 then rotReg (rotOpOf y) r s else if x = 1 then bitReg y r s else if x = 2 then resReg y r s else setReg y r s
  | none =>
    if x = 0 then rotMem (rotOpOf y) s else if x = 1 then bitMem y s else if x = 2 then resMem y s else setMem y s

/-- The prefix 0xCB with the byte after it (R142): one instruction, the CB table's (log 12). -/
def execCbPrefix (op2 : Byte) (s : State) : Result := runCB op2 s

/-- `BIT 0,B` (R430). -/
def execBit_0_B (s : State) : Result := bitReg 0 .b s

/-- `BIT 0,C` (R430). -/
def execBit_0_C (s : State) : Result := bitReg 0 .c s

/-- `BIT 0,D` (R430). -/
def execBit_0_D (s : State) : Result := bitReg 0 .d s

/-- `BIT 0,E` (R430). -/
def execBit_0_E (s : State) : Result := bitReg 0 .e s

/-- `BIT 0,H` (R430). -/
def execBit_0_H (s : State) : Result := bitReg 0 .h s

/-- `BIT 0,L` (R430). -/
def execBit_0_L (s : State) : Result := bitReg 0 .l s

/-- `BIT 0,(HL)` (R431). -/
def execBit_0_mHL (s : State) : Result := bitMem 0 s

/-- `BIT 0,A` (R430). -/
def execBit_0_A (s : State) : Result := bitReg 0 .a s

/-- `BIT 1,B` (R430). -/
def execBit_1_B (s : State) : Result := bitReg 1 .b s

/-- `BIT 1,C` (R430). -/
def execBit_1_C (s : State) : Result := bitReg 1 .c s

/-- `BIT 1,D` (R430). -/
def execBit_1_D (s : State) : Result := bitReg 1 .d s

/-- `BIT 1,E` (R430). -/
def execBit_1_E (s : State) : Result := bitReg 1 .e s

/-- `BIT 1,H` (R430). -/
def execBit_1_H (s : State) : Result := bitReg 1 .h s

/-- `BIT 1,L` (R430). -/
def execBit_1_L (s : State) : Result := bitReg 1 .l s

/-- `BIT 1,(HL)` (R431). -/
def execBit_1_mHL (s : State) : Result := bitMem 1 s

/-- `BIT 1,A` (R430). -/
def execBit_1_A (s : State) : Result := bitReg 1 .a s

/-- `BIT 2,B` (R430). -/
def execBit_2_B (s : State) : Result := bitReg 2 .b s

/-- `BIT 2,C` (R430). -/
def execBit_2_C (s : State) : Result := bitReg 2 .c s

/-- `BIT 2,D` (R430). -/
def execBit_2_D (s : State) : Result := bitReg 2 .d s

/-- `BIT 2,E` (R430). -/
def execBit_2_E (s : State) : Result := bitReg 2 .e s

/-- `BIT 2,H` (R430). -/
def execBit_2_H (s : State) : Result := bitReg 2 .h s

/-- `BIT 2,L` (R430). -/
def execBit_2_L (s : State) : Result := bitReg 2 .l s

/-- `BIT 2,(HL)` (R431). -/
def execBit_2_mHL (s : State) : Result := bitMem 2 s

/-- `BIT 2,A` (R430). -/
def execBit_2_A (s : State) : Result := bitReg 2 .a s

/-- `BIT 3,B` (R430). -/
def execBit_3_B (s : State) : Result := bitReg 3 .b s

/-- `BIT 3,C` (R430). -/
def execBit_3_C (s : State) : Result := bitReg 3 .c s

/-- `BIT 3,D` (R430). -/
def execBit_3_D (s : State) : Result := bitReg 3 .d s

/-- `BIT 3,E` (R430). -/
def execBit_3_E (s : State) : Result := bitReg 3 .e s

/-- `BIT 3,H` (R430). -/
def execBit_3_H (s : State) : Result := bitReg 3 .h s

/-- `BIT 3,L` (R430). -/
def execBit_3_L (s : State) : Result := bitReg 3 .l s

/-- `BIT 3,(HL)` (R431). -/
def execBit_3_mHL (s : State) : Result := bitMem 3 s

/-- `BIT 3,A` (R430). -/
def execBit_3_A (s : State) : Result := bitReg 3 .a s

/-- `BIT 4,B` (R430). -/
def execBit_4_B (s : State) : Result := bitReg 4 .b s

/-- `BIT 4,C` (R430). -/
def execBit_4_C (s : State) : Result := bitReg 4 .c s

/-- `BIT 4,D` (R430). -/
def execBit_4_D (s : State) : Result := bitReg 4 .d s

/-- `BIT 4,E` (R430). -/
def execBit_4_E (s : State) : Result := bitReg 4 .e s

/-- `BIT 4,H` (R430). -/
def execBit_4_H (s : State) : Result := bitReg 4 .h s

/-- `BIT 4,L` (R430). -/
def execBit_4_L (s : State) : Result := bitReg 4 .l s

/-- `BIT 4,(HL)` (R431). -/
def execBit_4_mHL (s : State) : Result := bitMem 4 s

/-- `BIT 4,A` (R430). -/
def execBit_4_A (s : State) : Result := bitReg 4 .a s

/-- `BIT 5,B` (R430). -/
def execBit_5_B (s : State) : Result := bitReg 5 .b s

/-- `BIT 5,C` (R430). -/
def execBit_5_C (s : State) : Result := bitReg 5 .c s

/-- `BIT 5,D` (R430). -/
def execBit_5_D (s : State) : Result := bitReg 5 .d s

/-- `BIT 5,E` (R430). -/
def execBit_5_E (s : State) : Result := bitReg 5 .e s

/-- `BIT 5,H` (R430). -/
def execBit_5_H (s : State) : Result := bitReg 5 .h s

/-- `BIT 5,L` (R430). -/
def execBit_5_L (s : State) : Result := bitReg 5 .l s

/-- `BIT 5,(HL)` (R431). -/
def execBit_5_mHL (s : State) : Result := bitMem 5 s

/-- `BIT 5,A` (R430). -/
def execBit_5_A (s : State) : Result := bitReg 5 .a s

/-- `BIT 6,B` (R430). -/
def execBit_6_B (s : State) : Result := bitReg 6 .b s

/-- `BIT 6,C` (R430). -/
def execBit_6_C (s : State) : Result := bitReg 6 .c s

/-- `BIT 6,D` (R430). -/
def execBit_6_D (s : State) : Result := bitReg 6 .d s

/-- `BIT 6,E` (R430). -/
def execBit_6_E (s : State) : Result := bitReg 6 .e s

/-- `BIT 6,H` (R430). -/
def execBit_6_H (s : State) : Result := bitReg 6 .h s

/-- `BIT 6,L` (R430). -/
def execBit_6_L (s : State) : Result := bitReg 6 .l s

/-- `BIT 6,(HL)` (R431). -/
def execBit_6_mHL (s : State) : Result := bitMem 6 s

/-- `BIT 6,A` (R430). -/
def execBit_6_A (s : State) : Result := bitReg 6 .a s

/-- `BIT 7,B` (R430). -/
def execBit_7_B (s : State) : Result := bitReg 7 .b s

/-- `BIT 7,C` (R430). -/
def execBit_7_C (s : State) : Result := bitReg 7 .c s

/-- `BIT 7,D` (R430). -/
def execBit_7_D (s : State) : Result := bitReg 7 .d s

/-- `BIT 7,E` (R430). -/
def execBit_7_E (s : State) : Result := bitReg 7 .e s

/-- `BIT 7,H` (R430). -/
def execBit_7_H (s : State) : Result := bitReg 7 .h s

/-- `BIT 7,L` (R430). -/
def execBit_7_L (s : State) : Result := bitReg 7 .l s

/-- `BIT 7,(HL)` (R431). -/
def execBit_7_mHL (s : State) : Result := bitMem 7 s

/-- `BIT 7,A` (R430). -/
def execBit_7_A (s : State) : Result := bitReg 7 .a s

/-- `RES 0,B` (R432). -/
def execRes_0_B (s : State) : Result := resReg 0 .b s

/-- `RES 0,C` (R432). -/
def execRes_0_C (s : State) : Result := resReg 0 .c s

/-- `RES 0,D` (R432). -/
def execRes_0_D (s : State) : Result := resReg 0 .d s

/-- `RES 0,E` (R432). -/
def execRes_0_E (s : State) : Result := resReg 0 .e s

/-- `RES 0,H` (R432). -/
def execRes_0_H (s : State) : Result := resReg 0 .h s

/-- `RES 0,L` (R432). -/
def execRes_0_L (s : State) : Result := resReg 0 .l s

/-- `RES 0,(HL)` (R433). -/
def execRes_0_mHL (s : State) : Result := resMem 0 s

/-- `RES 0,A` (R432). -/
def execRes_0_A (s : State) : Result := resReg 0 .a s

/-- `RES 1,B` (R432). -/
def execRes_1_B (s : State) : Result := resReg 1 .b s

/-- `RES 1,C` (R432). -/
def execRes_1_C (s : State) : Result := resReg 1 .c s

/-- `RES 1,D` (R432). -/
def execRes_1_D (s : State) : Result := resReg 1 .d s

/-- `RES 1,E` (R432). -/
def execRes_1_E (s : State) : Result := resReg 1 .e s

/-- `RES 1,H` (R432). -/
def execRes_1_H (s : State) : Result := resReg 1 .h s

/-- `RES 1,L` (R432). -/
def execRes_1_L (s : State) : Result := resReg 1 .l s

/-- `RES 1,(HL)` (R433). -/
def execRes_1_mHL (s : State) : Result := resMem 1 s

/-- `RES 1,A` (R432). -/
def execRes_1_A (s : State) : Result := resReg 1 .a s

/-- `RES 2,B` (R432). -/
def execRes_2_B (s : State) : Result := resReg 2 .b s

/-- `RES 2,C` (R432). -/
def execRes_2_C (s : State) : Result := resReg 2 .c s

/-- `RES 2,D` (R432). -/
def execRes_2_D (s : State) : Result := resReg 2 .d s

/-- `RES 2,E` (R432). -/
def execRes_2_E (s : State) : Result := resReg 2 .e s

/-- `RES 2,H` (R432). -/
def execRes_2_H (s : State) : Result := resReg 2 .h s

/-- `RES 2,L` (R432). -/
def execRes_2_L (s : State) : Result := resReg 2 .l s

/-- `RES 2,(HL)` (R433). -/
def execRes_2_mHL (s : State) : Result := resMem 2 s

/-- `RES 2,A` (R432). -/
def execRes_2_A (s : State) : Result := resReg 2 .a s

/-- `RES 3,B` (R432). -/
def execRes_3_B (s : State) : Result := resReg 3 .b s

/-- `RES 3,C` (R432). -/
def execRes_3_C (s : State) : Result := resReg 3 .c s

/-- `RES 3,D` (R432). -/
def execRes_3_D (s : State) : Result := resReg 3 .d s

/-- `RES 3,E` (R432). -/
def execRes_3_E (s : State) : Result := resReg 3 .e s

/-- `RES 3,H` (R432). -/
def execRes_3_H (s : State) : Result := resReg 3 .h s

/-- `RES 3,L` (R432). -/
def execRes_3_L (s : State) : Result := resReg 3 .l s

/-- `RES 3,(HL)` (R433). -/
def execRes_3_mHL (s : State) : Result := resMem 3 s

/-- `RES 3,A` (R432). -/
def execRes_3_A (s : State) : Result := resReg 3 .a s

/-- `RES 4,B` (R432). -/
def execRes_4_B (s : State) : Result := resReg 4 .b s

/-- `RES 4,C` (R432). -/
def execRes_4_C (s : State) : Result := resReg 4 .c s

/-- `RES 4,D` (R432). -/
def execRes_4_D (s : State) : Result := resReg 4 .d s

/-- `RES 4,E` (R432). -/
def execRes_4_E (s : State) : Result := resReg 4 .e s

/-- `RES 4,H` (R432). -/
def execRes_4_H (s : State) : Result := resReg 4 .h s

/-- `RES 4,L` (R432). -/
def execRes_4_L (s : State) : Result := resReg 4 .l s

/-- `RES 4,(HL)` (R433). -/
def execRes_4_mHL (s : State) : Result := resMem 4 s

/-- `RES 4,A` (R432). -/
def execRes_4_A (s : State) : Result := resReg 4 .a s

/-- `RES 5,B` (R432). -/
def execRes_5_B (s : State) : Result := resReg 5 .b s

/-- `RES 5,C` (R432). -/
def execRes_5_C (s : State) : Result := resReg 5 .c s

/-- `RES 5,D` (R432). -/
def execRes_5_D (s : State) : Result := resReg 5 .d s

/-- `RES 5,E` (R432). -/
def execRes_5_E (s : State) : Result := resReg 5 .e s

/-- `RES 5,H` (R432). -/
def execRes_5_H (s : State) : Result := resReg 5 .h s

/-- `RES 5,L` (R432). -/
def execRes_5_L (s : State) : Result := resReg 5 .l s

/-- `RES 5,(HL)` (R433). -/
def execRes_5_mHL (s : State) : Result := resMem 5 s

/-- `RES 5,A` (R432). -/
def execRes_5_A (s : State) : Result := resReg 5 .a s

/-- `RES 6,B` (R432). -/
def execRes_6_B (s : State) : Result := resReg 6 .b s

/-- `RES 6,C` (R432). -/
def execRes_6_C (s : State) : Result := resReg 6 .c s

/-- `RES 6,D` (R432). -/
def execRes_6_D (s : State) : Result := resReg 6 .d s

/-- `RES 6,E` (R432). -/
def execRes_6_E (s : State) : Result := resReg 6 .e s

/-- `RES 6,H` (R432). -/
def execRes_6_H (s : State) : Result := resReg 6 .h s

/-- `RES 6,L` (R432). -/
def execRes_6_L (s : State) : Result := resReg 6 .l s

/-- `RES 6,(HL)` (R433). -/
def execRes_6_mHL (s : State) : Result := resMem 6 s

/-- `RES 6,A` (R432). -/
def execRes_6_A (s : State) : Result := resReg 6 .a s

/-- `RES 7,B` (R432). -/
def execRes_7_B (s : State) : Result := resReg 7 .b s

/-- `RES 7,C` (R432). -/
def execRes_7_C (s : State) : Result := resReg 7 .c s

/-- `RES 7,D` (R432). -/
def execRes_7_D (s : State) : Result := resReg 7 .d s

/-- `RES 7,E` (R432). -/
def execRes_7_E (s : State) : Result := resReg 7 .e s

/-- `RES 7,H` (R432). -/
def execRes_7_H (s : State) : Result := resReg 7 .h s

/-- `RES 7,L` (R432). -/
def execRes_7_L (s : State) : Result := resReg 7 .l s

/-- `RES 7,(HL)` (R433). -/
def execRes_7_mHL (s : State) : Result := resMem 7 s

/-- `RES 7,A` (R432). -/
def execRes_7_A (s : State) : Result := resReg 7 .a s

/-- `SET 0,B` (R434). -/
def execSet_0_B (s : State) : Result := setReg 0 .b s

/-- `SET 0,C` (R434). -/
def execSet_0_C (s : State) : Result := setReg 0 .c s

/-- `SET 0,D` (R434). -/
def execSet_0_D (s : State) : Result := setReg 0 .d s

/-- `SET 0,E` (R434). -/
def execSet_0_E (s : State) : Result := setReg 0 .e s

/-- `SET 0,H` (R434). -/
def execSet_0_H (s : State) : Result := setReg 0 .h s

/-- `SET 0,L` (R434). -/
def execSet_0_L (s : State) : Result := setReg 0 .l s

/-- `SET 0,(HL)` (R435). -/
def execSet_0_mHL (s : State) : Result := setMem 0 s

/-- `SET 0,A` (R434). -/
def execSet_0_A (s : State) : Result := setReg 0 .a s

/-- `SET 1,B` (R434). -/
def execSet_1_B (s : State) : Result := setReg 1 .b s

/-- `SET 1,C` (R434). -/
def execSet_1_C (s : State) : Result := setReg 1 .c s

/-- `SET 1,D` (R434). -/
def execSet_1_D (s : State) : Result := setReg 1 .d s

/-- `SET 1,E` (R434). -/
def execSet_1_E (s : State) : Result := setReg 1 .e s

/-- `SET 1,H` (R434). -/
def execSet_1_H (s : State) : Result := setReg 1 .h s

/-- `SET 1,L` (R434). -/
def execSet_1_L (s : State) : Result := setReg 1 .l s

/-- `SET 1,(HL)` (R435). -/
def execSet_1_mHL (s : State) : Result := setMem 1 s

/-- `SET 1,A` (R434). -/
def execSet_1_A (s : State) : Result := setReg 1 .a s

/-- `SET 2,B` (R434). -/
def execSet_2_B (s : State) : Result := setReg 2 .b s

/-- `SET 2,C` (R434). -/
def execSet_2_C (s : State) : Result := setReg 2 .c s

/-- `SET 2,D` (R434). -/
def execSet_2_D (s : State) : Result := setReg 2 .d s

/-- `SET 2,E` (R434). -/
def execSet_2_E (s : State) : Result := setReg 2 .e s

/-- `SET 2,H` (R434). -/
def execSet_2_H (s : State) : Result := setReg 2 .h s

/-- `SET 2,L` (R434). -/
def execSet_2_L (s : State) : Result := setReg 2 .l s

/-- `SET 2,(HL)` (R435). -/
def execSet_2_mHL (s : State) : Result := setMem 2 s

/-- `SET 2,A` (R434). -/
def execSet_2_A (s : State) : Result := setReg 2 .a s

/-- `SET 3,B` (R434). -/
def execSet_3_B (s : State) : Result := setReg 3 .b s

/-- `SET 3,C` (R434). -/
def execSet_3_C (s : State) : Result := setReg 3 .c s

/-- `SET 3,D` (R434). -/
def execSet_3_D (s : State) : Result := setReg 3 .d s

/-- `SET 3,E` (R434). -/
def execSet_3_E (s : State) : Result := setReg 3 .e s

/-- `SET 3,H` (R434). -/
def execSet_3_H (s : State) : Result := setReg 3 .h s

/-- `SET 3,L` (R434). -/
def execSet_3_L (s : State) : Result := setReg 3 .l s

/-- `SET 3,(HL)` (R435). -/
def execSet_3_mHL (s : State) : Result := setMem 3 s

/-- `SET 3,A` (R434). -/
def execSet_3_A (s : State) : Result := setReg 3 .a s

/-- `SET 4,B` (R434). -/
def execSet_4_B (s : State) : Result := setReg 4 .b s

/-- `SET 4,C` (R434). -/
def execSet_4_C (s : State) : Result := setReg 4 .c s

/-- `SET 4,D` (R434). -/
def execSet_4_D (s : State) : Result := setReg 4 .d s

/-- `SET 4,E` (R434). -/
def execSet_4_E (s : State) : Result := setReg 4 .e s

/-- `SET 4,H` (R434). -/
def execSet_4_H (s : State) : Result := setReg 4 .h s

/-- `SET 4,L` (R434). -/
def execSet_4_L (s : State) : Result := setReg 4 .l s

/-- `SET 4,(HL)` (R435). -/
def execSet_4_mHL (s : State) : Result := setMem 4 s

/-- `SET 4,A` (R434). -/
def execSet_4_A (s : State) : Result := setReg 4 .a s

/-- `SET 5,B` (R434). -/
def execSet_5_B (s : State) : Result := setReg 5 .b s

/-- `SET 5,C` (R434). -/
def execSet_5_C (s : State) : Result := setReg 5 .c s

/-- `SET 5,D` (R434). -/
def execSet_5_D (s : State) : Result := setReg 5 .d s

/-- `SET 5,E` (R434). -/
def execSet_5_E (s : State) : Result := setReg 5 .e s

/-- `SET 5,H` (R434). -/
def execSet_5_H (s : State) : Result := setReg 5 .h s

/-- `SET 5,L` (R434). -/
def execSet_5_L (s : State) : Result := setReg 5 .l s

/-- `SET 5,(HL)` (R435). -/
def execSet_5_mHL (s : State) : Result := setMem 5 s

/-- `SET 5,A` (R434). -/
def execSet_5_A (s : State) : Result := setReg 5 .a s

/-- `SET 6,B` (R434). -/
def execSet_6_B (s : State) : Result := setReg 6 .b s

/-- `SET 6,C` (R434). -/
def execSet_6_C (s : State) : Result := setReg 6 .c s

/-- `SET 6,D` (R434). -/
def execSet_6_D (s : State) : Result := setReg 6 .d s

/-- `SET 6,E` (R434). -/
def execSet_6_E (s : State) : Result := setReg 6 .e s

/-- `SET 6,H` (R434). -/
def execSet_6_H (s : State) : Result := setReg 6 .h s

/-- `SET 6,L` (R434). -/
def execSet_6_L (s : State) : Result := setReg 6 .l s

/-- `SET 6,(HL)` (R435). -/
def execSet_6_mHL (s : State) : Result := setMem 6 s

/-- `SET 6,A` (R434). -/
def execSet_6_A (s : State) : Result := setReg 6 .a s

/-- `SET 7,B` (R434). -/
def execSet_7_B (s : State) : Result := setReg 7 .b s

/-- `SET 7,C` (R434). -/
def execSet_7_C (s : State) : Result := setReg 7 .c s

/-- `SET 7,D` (R434). -/
def execSet_7_D (s : State) : Result := setReg 7 .d s

/-- `SET 7,E` (R434). -/
def execSet_7_E (s : State) : Result := setReg 7 .e s

/-- `SET 7,H` (R434). -/
def execSet_7_H (s : State) : Result := setReg 7 .h s

/-- `SET 7,L` (R434). -/
def execSet_7_L (s : State) : Result := setReg 7 .l s

/-- `SET 7,(HL)` (R435). -/
def execSet_7_mHL (s : State) : Result := setMem 7 s

/-- `SET 7,A` (R434). -/
def execSet_7_A (s : State) : Result := setReg 7 .a s

end Sys2Proof.Machine
end

