-- ==== Sys2Proof/Machine/Control.lean ====
section
/-! DEFINITION. Control transfer (spec/45_control.md R450 to R463). A meaning runs with pc past the instruction, which is the
address a CALL or RST pushes and a JR counts from. No flag is written (R459). -/

namespace Sys2Proof.Machine

/-- `JP nn` and a taken `JP cc, nn` (R450, R451). -/
def State.jump (s : State) (target : Word) : State := { s with pc := target }

/-- `CALL nn`, a taken `CALL cc, nn` and `RST t`: push the address of the next instruction, then jump (R455, R456, R463). -/
def State.call (s : State) (target : Word) : State := (s.push16 s.pc).jump target

/-- `RET` and a taken `RET cc` (R457, R458). -/
def State.ret (s : State) : State := s.pop16.jump s.popped

/-- A conditional transfer: taken, it costs the larger count; not taken, it writes nothing (R459). -/
def branch (cc : Cond) (taken : State → State) (costTaken costNot : Nat) (s : State) : Result :=
  .next (if s.cond cc then (taken s).spend costTaken else s.spend costNot)

/-- `JP cc, nn` (R451). -/
def jpCond (cc : Cond) (nn : Word) (s : State) : Result := branch cc (fun s => s.jump nn) 16 12 s

/-- `JR cc, e` (R454). -/
def jrCond (cc : Cond) (e : Byte) (s : State) : Result := branch cc (fun s => s.jump (s.pc + sext e)) 12 8 s

/-- `CALL cc, nn` (R456). -/
def callCond (cc : Cond) (nn : Word) (s : State) : Result := branch cc (fun s => s.call nn) 24 12 s

/-- `RET cc` (R458). -/
def retCond (cc : Cond) (s : State) : Result := branch cc State.ret 20 8 s

/-- `RST t` (R463): the target is `y * 8`. -/
def rst (y : BitVec 3) (s : State) : Result := .next ((s.call (BitVec.ofNat 16 (8 * y.toNat))).spend 16)

/-- `JR e` (R453): the displacement counts from the next instruction. -/
def execJr_e (e : Byte) (s : State) : Result := .next ((s.jump (s.pc + sext e)).spend 12)

/-- `JR NZ,e` (R454). -/
def execJr_NZ_e (e : Byte) (s : State) : Result := jrCond .nz e s

/-- `JR Z,e` (R454). -/
def execJr_Z_e (e : Byte) (s : State) : Result := jrCond .z e s

/-- `JR NC,e` (R454). -/
def execJr_NC_e (e : Byte) (s : State) : Result := jrCond .nc e s

/-- `JR C,e` (R454). -/
def execJr_C_e (e : Byte) (s : State) : Result := jrCond .c e s

/-- `RET NZ` (R458). -/
def execRet_NZ (s : State) : Result := retCond .nz s

/-- `JP NZ,nn` (R451). -/
def execJp_NZ_nn (nn : Word) (s : State) : Result := jpCond .nz nn s

/-- `JP nn` (R450). -/
def execJp_nn (nn : Word) (s : State) : Result := .next ((s.jump nn).spend 16)

/-- `CALL NZ,nn` (R456). -/
def execCall_NZ_nn (nn : Word) (s : State) : Result := callCond .nz nn s

/-- `RST 00H` (R463). -/
def execRst_00H (s : State) : Result := rst 0 s

/-- `RET Z` (R458). -/
def execRet_Z (s : State) : Result := retCond .z s

/-- `RET` (R457). -/
def execRet (s : State) : Result := .next (s.ret.spend 16)

/-- `JP Z,nn` (R451). -/
def execJp_Z_nn (nn : Word) (s : State) : Result := jpCond .z nn s

/-- `CALL Z,nn` (R456). -/
def execCall_Z_nn (nn : Word) (s : State) : Result := callCond .z nn s

/-- `CALL nn` (R455). -/
def execCall_nn (nn : Word) (s : State) : Result := .next ((s.call nn).spend 24)

/-- `RST 08H` (R463). -/
def execRst_08H (s : State) : Result := rst 1 s

/-- `RET NC` (R458). -/
def execRet_NC (s : State) : Result := retCond .nc s

/-- `JP NC,nn` (R451). -/
def execJp_NC_nn (nn : Word) (s : State) : Result := jpCond .nc nn s

/-- `CALL NC,nn` (R456). -/
def execCall_NC_nn (nn : Word) (s : State) : Result := callCond .nc nn s

/-- `RST 10H` (R463). -/
def execRst_10H (s : State) : Result := rst 2 s

/-- `RET C` (R458). -/
def execRet_C (s : State) : Result := retCond .c s

/-- `RETI` (R462): IME is set in the same step. -/
def execReti (s : State) : Result := .next (s.returnFromInterrupt.spend 16)

/-- `JP C,nn` (R451). -/
def execJp_C_nn (nn : Word) (s : State) : Result := jpCond .c nn s

/-- `CALL C,nn` (R456). -/
def execCall_C_nn (nn : Word) (s : State) : Result := callCond .c nn s

/-- `RST 18H` (R463). -/
def execRst_18H (s : State) : Result := rst 3 s

/-- `RST 20H` (R463). -/
def execRst_20H (s : State) : Result := rst 4 s

/-- `JP HL` (R452): the value of HL, with no memory read. -/
def execJp_HL (s : State) : Result := .next ((s.jump s.hl).spend 4)

/-- `RST 28H` (R463). -/
def execRst_28H (s : State) : Result := rst 5 s

/-- `RST 30H` (R463). -/
def execRst_30H (s : State) : Result := rst 6 s

/-- `RST 38H` (R463). -/
def execRst_38H (s : State) : Result := rst 7 s

end Sys2Proof.Machine
end

