-- ==== Sys2Proof/Machine/Load16.lean ====
section
/-! DEFINITION. The 16-bit loads and the stack (spec/41_load16.md R260 to R265). -/

namespace Sys2Proof.Machine

/-- `LD rr, nn` (R260). -/
def ldPairImm (p : Reg16) (nn : Word) (s : State) : Result := .next ((s.setR16 p nn).spend 12)

/-- `PUSH rr` (R263). -/
def pushPair (p : RegStk) (s : State) : Result := .next ((s.push16 (s.rstk p)).spend 16)

/-- `POP rr` (R264). -/
def popPair (p : RegStk) (s : State) : Result := .next ((s.pop16.setRstk p s.popped).spend 12)

/-- `LD BC,nn` (R260). -/
def execLd_BC_nn (nn : Word) (s : State) : Result := ldPairImm .bc nn s

/-- `LD (nn),SP` (R261): the low byte at nn, the high byte at nn + 1. -/
def execLd_mnn_SP (nn : Word) (s : State) : Result := .next ((s.writeWord nn s.sp).spend 20)

/-- `LD DE,nn` (R260). -/
def execLd_DE_nn (nn : Word) (s : State) : Result := ldPairImm .de nn s

/-- `LD HL,nn` (R260). -/
def execLd_HL_nn (nn : Word) (s : State) : Result := ldPairImm .hl nn s

/-- `LD SP,nn` (R260). -/
def execLd_SP_nn (nn : Word) (s : State) : Result := ldPairImm .sp nn s

/-- `POP BC` (R264). -/
def execPop_BC (s : State) : Result := popPair .bc s

/-- `PUSH BC` (R263). -/
def execPush_BC (s : State) : Result := pushPair .bc s

/-- `POP DE` (R264). -/
def execPop_DE (s : State) : Result := popPair .de s

/-- `PUSH DE` (R263). -/
def execPush_DE (s : State) : Result := pushPair .de s

/-- `POP HL` (R264). -/
def execPop_HL (s : State) : Result := popPair .hl s

/-- `PUSH HL` (R263). -/
def execPush_HL (s : State) : Result := pushPair .hl s

/-- `POP AF` (R264). -/
def execPop_AF (s : State) : Result := popPair .af s

/-- `PUSH AF` (R263). -/
def execPush_AF (s : State) : Result := pushPair .af s

/-- `LD HL,SP+e` (R265): Z and N cleared; SP unchanged. -/
def execLd_HL_SPe (e : Byte) (s : State) : Result :=
  let (res, h, c) := spAdd s.sp e
  .next (((s.setHL res).setF (flagByte false false h c)).spend 12)

/-- `LD SP,HL` (R262). -/
def execLd_SP_HL (s : State) : Result := .next ({ s with sp := s.hl }.spend 8)

end Sys2Proof.Machine
end

