-- ==== Sys2Proof/Machine/Load8.lean ====
section
/-! DEFINITION. The 8-bit loads (spec/40_load8.md R200 to R218). No flag is written. A meaning runs with pc past the
instruction (Machine/Execute.lean; log 7). -/

namespace Sys2Proof.Machine

/-- `LD r, r'` (R200). -/
def ldRegReg (dst src : Reg8) (s : State) : Result := .next ((s.setR8 dst (s.r8 src)).spend 4)

/-- `LD r, n` (R201). -/
def ldRegImm (dst : Reg8) (n : Byte) (s : State) : Result := .next ((s.setR8 dst n).spend 8)

/-- `LD r, (HL)` (R202): the address is the old HL. -/
def ldRegMem (dst : Reg8) (s : State) : Result := .next ((s.setR8 dst (s.readByte s.hl)).spend 8)

/-- `LD (HL), r` (R203). -/
def stMemReg (r : Reg8) (s : State) : Result := .next ((s.writeByte s.hl (s.r8 r)).spend 8)

/-- The loads of A from an address (R205, R206, R209, R211, R213). -/
def ldAccFrom (a : Word) (cost : Nat) (s : State) : Result := .next ({ s with a := s.readByte a }.spend cost)

/-- The stores of A to an address (R207, R208, R210, R212, R214). -/
def stAccTo (a : Word) (cost : Nat) (s : State) : Result := .next ((s.writeByte a s.a).spend cost)

/-- `LD (BC),A` (R207). -/
def execLd_mBC_A (s : State) : Result := stAccTo s.bc 8 s

/-- `LD B,n` (R201). -/
def execLd_B_n (n : Byte) (s : State) : Result := ldRegImm .b n s

/-- `LD A,(BC)` (R205). -/
def execLd_A_mBC (s : State) : Result := ldAccFrom s.bc 8 s

/-- `LD C,n` (R201). -/
def execLd_C_n (n : Byte) (s : State) : Result := ldRegImm .c n s

/-- `LD (DE),A` (R208). -/
def execLd_mDE_A (s : State) : Result := stAccTo s.de 8 s

/-- `LD D,n` (R201). -/
def execLd_D_n (n : Byte) (s : State) : Result := ldRegImm .d n s

/-- `LD A,(DE)` (R206). -/
def execLd_A_mDE (s : State) : Result := ldAccFrom s.de 8 s

/-- `LD E,n` (R201). -/
def execLd_E_n (n : Byte) (s : State) : Result := ldRegImm .e n s

/-- `LD (HL+),A` (R217): HL is incremented after the write; no flag. -/
def execLd_mHLI_A (s : State) : Result := .next (((s.writeByte s.hl s.a).setHL (s.hl + 1)).spend 8)

/-- `LD H,n` (R201). -/
def execLd_H_n (n : Byte) (s : State) : Result := ldRegImm .h n s

/-- `LD A,(HL+)` (R215): HL is incremented after the read; no flag. -/
def execLd_A_mHLI (s : State) : Result := .next (({ s with a := s.readByte s.hl }.setHL (s.hl + 1)).spend 8)

/-- `LD L,n` (R201). -/
def execLd_L_n (n : Byte) (s : State) : Result := ldRegImm .l n s

/-- `LD (HL-),A` (R218): HL is decremented after the write; no flag. -/
def execLd_mHLD_A (s : State) : Result := .next (((s.writeByte s.hl s.a).setHL (s.hl - 1)).spend 8)

/-- `LD (HL),n` (R204). -/
def execLd_mHL_n (n : Byte) (s : State) : Result := .next ((s.writeByte s.hl n).spend 12)

/-- `LD A,(HL-)` (R216): HL is decremented after the read; no flag. -/
def execLd_A_mHLD (s : State) : Result := .next (({ s with a := s.readByte s.hl }.setHL (s.hl - 1)).spend 8)

/-- `LD A,n` (R201). -/
def execLd_A_n (n : Byte) (s : State) : Result := ldRegImm .a n s

/-- `LD B,B` (R200). -/
def execLd_B_B (s : State) : Result := ldRegReg .b .b s

/-- `LD B,C` (R200). -/
def execLd_B_C (s : State) : Result := ldRegReg .b .c s

/-- `LD B,D` (R200). -/
def execLd_B_D (s : State) : Result := ldRegReg .b .d s

/-- `LD B,E` (R200). -/
def execLd_B_E (s : State) : Result := ldRegReg .b .e s

/-- `LD B,H` (R200). -/
def execLd_B_H (s : State) : Result := ldRegReg .b .h s

/-- `LD B,L` (R200). -/
def execLd_B_L (s : State) : Result := ldRegReg .b .l s

/-- `LD B,(HL)` (R202). -/
def execLd_B_mHL (s : State) : Result := ldRegMem .b s

/-- `LD B,A` (R200). -/
def execLd_B_A (s : State) : Result := ldRegReg .b .a s

/-- `LD C,B` (R200). -/
def execLd_C_B (s : State) : Result := ldRegReg .c .b s

/-- `LD C,C` (R200). -/
def execLd_C_C (s : State) : Result := ldRegReg .c .c s

/-- `LD C,D` (R200). -/
def execLd_C_D (s : State) : Result := ldRegReg .c .d s

/-- `LD C,E` (R200). -/
def execLd_C_E (s : State) : Result := ldRegReg .c .e s

/-- `LD C,H` (R200). -/
def execLd_C_H (s : State) : Result := ldRegReg .c .h s

/-- `LD C,L` (R200). -/
def execLd_C_L (s : State) : Result := ldRegReg .c .l s

/-- `LD C,(HL)` (R202). -/
def execLd_C_mHL (s : State) : Result := ldRegMem .c s

/-- `LD C,A` (R200). -/
def execLd_C_A (s : State) : Result := ldRegReg .c .a s

/-- `LD D,B` (R200). -/
def execLd_D_B (s : State) : Result := ldRegReg .d .b s

/-- `LD D,C` (R200). -/
def execLd_D_C (s : State) : Result := ldRegReg .d .c s

/-- `LD D,D` (R200). -/
def execLd_D_D (s : State) : Result := ldRegReg .d .d s

/-- `LD D,E` (R200). -/
def execLd_D_E (s : State) : Result := ldRegReg .d .e s

/-- `LD D,H` (R200). -/
def execLd_D_H (s : State) : Result := ldRegReg .d .h s

/-- `LD D,L` (R200). -/
def execLd_D_L (s : State) : Result := ldRegReg .d .l s

/-- `LD D,(HL)` (R202). -/
def execLd_D_mHL (s : State) : Result := ldRegMem .d s

/-- `LD D,A` (R200). -/
def execLd_D_A (s : State) : Result := ldRegReg .d .a s

/-- `LD E,B` (R200). -/
def execLd_E_B (s : State) : Result := ldRegReg .e .b s

/-- `LD E,C` (R200). -/
def execLd_E_C (s : State) : Result := ldRegReg .e .c s

/-- `LD E,D` (R200). -/
def execLd_E_D (s : State) : Result := ldRegReg .e .d s

/-- `LD E,E` (R200). -/
def execLd_E_E (s : State) : Result := ldRegReg .e .e s

/-- `LD E,H` (R200). -/
def execLd_E_H (s : State) : Result := ldRegReg .e .h s

/-- `LD E,L` (R200). -/
def execLd_E_L (s : State) : Result := ldRegReg .e .l s

/-- `LD E,(HL)` (R202). -/
def execLd_E_mHL (s : State) : Result := ldRegMem .e s

/-- `LD E,A` (R200). -/
def execLd_E_A (s : State) : Result := ldRegReg .e .a s

/-- `LD H,B` (R200). -/
def execLd_H_B (s : State) : Result := ldRegReg .h .b s

/-- `LD H,C` (R200). -/
def execLd_H_C (s : State) : Result := ldRegReg .h .c s

/-- `LD H,D` (R200). -/
def execLd_H_D (s : State) : Result := ldRegReg .h .d s

/-- `LD H,E` (R200). -/
def execLd_H_E (s : State) : Result := ldRegReg .h .e s

/-- `LD H,H` (R200). -/
def execLd_H_H (s : State) : Result := ldRegReg .h .h s

/-- `LD H,L` (R200). -/
def execLd_H_L (s : State) : Result := ldRegReg .h .l s

/-- `LD H,(HL)` (R202). -/
def execLd_H_mHL (s : State) : Result := ldRegMem .h s

/-- `LD H,A` (R200). -/
def execLd_H_A (s : State) : Result := ldRegReg .h .a s

/-- `LD L,B` (R200). -/
def execLd_L_B (s : State) : Result := ldRegReg .l .b s

/-- `LD L,C` (R200). -/
def execLd_L_C (s : State) : Result := ldRegReg .l .c s

/-- `LD L,D` (R200). -/
def execLd_L_D (s : State) : Result := ldRegReg .l .d s

/-- `LD L,E` (R200). -/
def execLd_L_E (s : State) : Result := ldRegReg .l .e s

/-- `LD L,H` (R200). -/
def execLd_L_H (s : State) : Result := ldRegReg .l .h s

/-- `LD L,L` (R200). -/
def execLd_L_L (s : State) : Result := ldRegReg .l .l s

/-- `LD L,(HL)` (R202). -/
def execLd_L_mHL (s : State) : Result := ldRegMem .l s

/-- `LD L,A` (R200). -/
def execLd_L_A (s : State) : Result := ldRegReg .l .a s

/-- `LD (HL),B` (R203). -/
def execLd_mHL_B (s : State) : Result := stMemReg .b s

/-- `LD (HL),C` (R203). -/
def execLd_mHL_C (s : State) : Result := stMemReg .c s

/-- `LD (HL),D` (R203). -/
def execLd_mHL_D (s : State) : Result := stMemReg .d s

/-- `LD (HL),E` (R203). -/
def execLd_mHL_E (s : State) : Result := stMemReg .e s

/-- `LD (HL),H` (R203). -/
def execLd_mHL_H (s : State) : Result := stMemReg .h s

/-- `LD (HL),L` (R203). -/
def execLd_mHL_L (s : State) : Result := stMemReg .l s

/-- `LD (HL),A` (R203). -/
def execLd_mHL_A (s : State) : Result := stMemReg .a s

/-- `LD A,B` (R200). -/
def execLd_A_B (s : State) : Result := ldRegReg .a .b s

/-- `LD A,C` (R200). -/
def execLd_A_C (s : State) : Result := ldRegReg .a .c s

/-- `LD A,D` (R200). -/
def execLd_A_D (s : State) : Result := ldRegReg .a .d s

/-- `LD A,E` (R200). -/
def execLd_A_E (s : State) : Result := ldRegReg .a .e s

/-- `LD A,H` (R200). -/
def execLd_A_H (s : State) : Result := ldRegReg .a .h s

/-- `LD A,L` (R200). -/
def execLd_A_L (s : State) : Result := ldRegReg .a .l s

/-- `LD A,(HL)` (R202). -/
def execLd_A_mHL (s : State) : Result := ldRegMem .a s

/-- `LD A,A` (R200). -/
def execLd_A_A (s : State) : Result := ldRegReg .a .a s

/-- `LDH (n),A` (R214). -/
def execLdh_mn_A (n : Byte) (s : State) : Result := stAccTo (highPage n) 12 s

/-- `LDH (C),A` (R212). -/
def execLdh_mC_A (s : State) : Result := stAccTo (highPage s.c) 8 s

/-- `LD (nn),A` (R210). -/
def execLd_mnn_A (nn : Word) (s : State) : Result := stAccTo nn 16 s

/-- `LDH A,(n)` (R213). -/
def execLdh_A_mn (n : Byte) (s : State) : Result := ldAccFrom (highPage n) 12 s

/-- `LDH A,(C)` (R211). -/
def execLdh_A_mC (s : State) : Result := ldAccFrom (highPage s.c) 8 s

/-- `LD A,(nn)` (R209). -/
def execLd_A_mnn (nn : Word) (s : State) : Result := ldAccFrom nn 16 s

end Sys2Proof.Machine
end

