-- ==== Sys2Proof/Machine/System.lean ====
section
/-! DEFINITION. The system instructions and the undefined opcodes (spec/46_system.md R490 to R495). -/

namespace Sys2Proof.Machine

/-- `NOP` (R490). -/
def execNop (s : State) : Result := .next (s.spend 4)

/-- `STOP` (R492): the byte after the opcode is ignored (60_exceptions.md R606). -/
def execStop (_ignored : Byte) (s : State) : Result := .next ({ s with mode := .stopped }.spend 4)

/-- `HALT` (R491): the step then waits, fetching nothing, until it wakes (60_exceptions.md R605). -/
def execHalt (s : State) : Result := .next ({ s with mode := .halted }.spend 4)

/-- The eleven undefined opcodes (R495): a no-op of 4 cycles under `nop`, no successor under `stuck`; the report to the host is left out (log 11). -/
def execUndefined (op : Byte) (s : State) : Result :=
  match s.params.illegalOpcodePolicy with
  | .nop => .next (s.spend 4)
  | .stuck => .fault (.stuckOnUndefinedOpcode op)

/-- `DI` (R493): at once. -/
def execDi (s : State) : Result := .next ({ s with ime := false, eiPending := false }.spend 4)

/-- `EI` (R494): IME is set at the start of the next step (60_exceptions.md R602). -/
def execEi (s : State) : Result := .next ({ s with eiPending := true }.spend 4)

end Sys2Proof.Machine
end

