-- ==== Sys2Proof/Machine/Timer.lean ====
section
/-! DEFINITION. The timer's advance and the peripherals' advance, the two that run on the cycles of a step
(spec/60_exceptions.md R620 to R627 and R640). -/

namespace Sys2Proof.Machine

/-- One expiry of the countdown: TIMA counts, and from 0xFF it reloads from TMA and requests the timer interrupt (R621, R624). -/
def State.tickTima (s : State) : State :=
  if s.tima.toNat + 1 > 0xFF then (s.forceWrite 0xFF05 s.tma).requestInterrupt 2
  else s.forceWrite 0xFF05 (s.tima + 1)

/-- `n` expiries, one after the other. -/
def State.tickTimaTimes (s : State) : Nat → State
  | 0 => s
  | n + 1 => State.tickTimaTimes s.tickTima n

/-- How often the loop `while countdown <= 0: countdown <- countdown + p` runs from `cd`: the least number of periods that
makes it positive (R621; log 10). -/
def expiries (cd : Int) (p : Nat) : Nat := if 0 < cd then 0 else (-cd).toNat / p + 1

/-- The countdown's part of `timerAdvance(c)`, with the timer enabled (R621, R623). -/
def State.countDown (s : State) (c : Nat) : State :=
  let p := period (tacRate s.tac)
  let n := expiries (s.countdown - c) p
  { s with countdown := s.countdown - c + n * p }.tickTimaTimes n

/-- `timerAdvance(c)` (R621). -/
def State.timerAdvance (s : State) (c : Nat) : State :=
  let s1 := { s with sysCounter := s.sysCounter + BitVec.ofNat 16 c }
  let s2 := s1.forceWrite 0xFF04 (Word.hi s1.sysCounter)
  if tacEnabled s2.tac then s2.countDown c else s2

/-- The I/O bytes that the peripherals own: serial, audio, LCD (R640). -/
def periphOwned (k : Nat) : Bool :=
  decide (0xFF01 ≤ k ∧ k ≤ 0xFF02) || decide (0xFF10 ≤ k ∧ k ≤ 0xFF3F) || decide (0xFF40 ≤ k ∧ k ≤ 0xFF4B)

/-- One ForceWrite of a peripheral; a byte that no peripheral owns stays (R640). -/
def State.periphWrite (s : State) (cell : Host.Cell) : State :=
  if periphOwned cell.1 then s.forceWrite (BitVec.ofNat 16 cell.1) cell.2 else s

/-- One request of a peripheral: the bit k of IF, if the move asks for it (R640). -/
def State.periphRequest (s : State) (requests : Byte) (k : Nat) : State :=
  if requests.getLsbD k then s.requestInterrupt k else s

/-- What one move changes: the peripherals' own I/O bytes, the joypad's state, and IF bits 0, 1, 3 and 4, which it only sets (R640). -/
def State.applyMove (s : State) (m : PeriphMove) : State :=
  let s1 := m.ioWrites.foldl State.periphWrite s
  let s2 := { s1 with joy := m.joypad.getD s1.joy }
  [0, 1, 3, 4].foldl (fun s k => s.periphRequest m.requests k) s2

/-- `Peripherals.advance`: the next move, or no change where none is left (R640; log 3). -/
def State.peripheralsAdvance (s : State) : State :=
  match s.periph with
  | [] => s
  | m :: rest => { s with periph := rest }.applyMove m

/-- The devices advance by `c` cycles: the timer first, then the peripherals (R602). -/
def State.devicesAdvance (s : State) (c : Nat) : State := (s.timerAdvance c).peripheralsAdvance

end Sys2Proof.Machine
end

