-- ==== Sys2Proof/Machine/Execute.lean ====
section
/-! DEFINITION. The phases of a step (spec/60_exceptions.md R602): EI's delayed enable, one instruction or one wait, the devices,
the interrupt check; and the fetch of an instruction's bytes (spec/30_encoding.md R131, R143). -/

namespace Sys2Proof.Machine

/-- Phase 1: the delayed EI takes effect (R602, R604). -/
def State.applyEi (s : State) : State :=
  if s.eiPending then { s with ime := true, eiPending := false } else s

/-- The instruction at pc. A fetch is a `readByte` and changes nothing, so looking at three bytes is looking at as many as the
instruction has (30_encoding.md R131; 20_memory.md R80, R112; log 7). -/
def State.fetch (s : State) : Instr :=
  decode3 (s.readByte s.pc) (s.readByte (s.pc + 1)) (s.readByte (s.pc + 2))

/-- The length in bytes of the instruction at pc (30_encoding.md R143). -/
def State.fetchLength (s : State) : Nat := instrLength (s.readByte s.pc)

/-- The state in which the instruction at pc runs: pc past its bytes, cyclesThisInstruction 0 (10_state.md R37, R41; R131). -/
def State.fetched (s : State) : State :=
  { s with pc := s.pc + BitVec.ofNat 16 s.fetchLength, cycles := 0 }

/-- `execute()`: fetch and run one instruction (R131). -/
def State.execute (s : State) : Result := exec s.fetch s.fetched

/-- Phase 4: wake, then service; the second component is the cycles of a service entry (R602, R605 to R607, R615). -/
def State.interruptCheck (s : State) : State × Nat :=
  if s.mode = .stopped then
    (if s.ifReg.getLsbD 4 then { s with mode := .running } else s, 0)
  else
    let woken := if s.mode = .halted ∧ s.pending ≠ 0 then { s with mode := .running } else s
    if s.ime then
      match selectPendingInterrupt s.ifReg s.ieReg with
      | some k => (woken.service k, serviceCycles)
      | none => (woken, 0)
    else (woken, 0)

/-- Phases 3 to 5, after an instruction or a wait of `c` cycles: the devices, the interrupt check, the devices again by the
cycles of a service entry; and what the step returns (R602, R603). -/
def State.finishStep (s : State) (c : Nat) : State :=
  let (s1, served) := (s.devicesAdvance c).interruptCheck
  let s2 := if 0 < served then s1.devicesAdvance served else s1
  { s2 with returned := c + served }

/-- The cycles of one step of a halted or stopped core (R608). -/
def waitCycles : Nat := 4

/-- One step of the core, `step()` (R602). -/
def State.stepCore (s : State) : Result :=
  let s1 := s.applyEi
  if s1.mode = .running then
    match s1.execute with
    | .next s2 => .next (s2.finishStep s2.cycles)
    | .fault r => .fault r
    | .refused r => .refused r
  else .next (s1.finishStep waitCycles)

/-- Whether a byte can be placed so that a fetch at the address reads it: ROM of the ROM-only cartridge, or the bus's plain memory. -/
def State.placeable (s : State) (a : Word) : Bool :=
  match classifyAddress a with
  | .rom0 | .romx => s.cart.kind = .romOnly
  | .vram | .wram0 | .wramx | .echo | .oam | .hram | .ie => true
  | .eram | .unused | .io => false

/-- Place a byte where a fetch at the address reads it: in ROM as a loader does, elsewhere by a write. -/
def State.place (s : State) (a : Word) (v : Byte) : State :=
  match classifyAddress a with
  | .rom0 | .romx => { s with cart := { s.cart with rom := Memory.write s.cart.rom a.toNat v } }
  | _ => s.writeOutsideIO a v

/-- The state whose next fetch can be placed: the core runs, and pc stays where it is if its three bytes can be placed, else it is
moved to work RAM (log 15). -/
def State.readyToPlace (s : State) : State :=
  if s.placeable s.pc ∧ s.placeable (s.pc + 1) ∧ s.placeable (s.pc + 2) then { s with mode := .running }
  else { s with mode := .running, pc := 0xC000 }

/-- Three bytes placed at pc. -/
def State.placeAtPc (s : State) (b : Byte × Byte × Byte) : State :=
  ((s.place s.pc b.1).place (s.pc + 1) b.2.1).place (s.pc + 2) b.2.2

end Sys2Proof.Machine
end

