-- ==== Sys2Proof/Machine/Step.lean ====
section
/-! DEFINITION. The step of the machine (spec/60_exceptions.md R602), and an instruction placed where the step fetches next. -/

namespace Sys2Proof.Machine

/-- One step (R602; its phases are in Machine/Execute.lean). -/
def step (s : State) : Host.Outcome State Fault Refusal := s.stepCore

/-- `s` with the instruction of an opcode-table word stored where the step fetches its next instruction (log 15). -/
def State.withFetchWord (s : State) (nbits w : Nat) : State := s.readyToPlace.placeAtPc (tableBytes nbits w)

end Sys2Proof.Machine
end

