-- ==== Sys2Proof/Safety.lean ====
section
/-! DEFINITION. The terms that claims are stated in: the invariant of the machine, which addresses are plain memory, and what a
write at one address may change of a read at another. -/

namespace Sys2Proof.Machine

/-- A valid cartridge (spec/20_memory.md R93; log 2): its ROM bytes are in canonical form, and those of the ROM-only instance lie
in the ROM regions, with no writes kept. -/
abbrev Cart.valid (c : Cart) : Prop :=
  Memory.wf c.rom ∧ (c.kind = .romOnly → (∀ cell ∈ c.rom, cell.1 < 0x8000) ∧ c.writes = [])

/-- The invariant of the machine. -/
structure Inv (s : State) : Prop where
  /-- Memory keeps its canonical form. -/
  mem_wf : Memory.wf s.mem
  /-- Memory holds bytes of the bus alone (20_memory.md R72). -/
  mem_owned : ∀ cell ∈ s.mem, busOwned cell.1
  /-- The cartridge stays valid (R93). -/
  cart_valid : s.cart.valid
  /-- Bits 3-0 of F are always 0 (10_state.md R34). -/
  flags_low : s.f &&& 0x0F = 0
  /-- The stored DIV byte is `sysCounter[15:8]` (20_memory.md R86). -/
  div_eq : s.div = Word.hi s.sysCounter
  /-- The countdown is at least 1 between advances (60_exceptions.md R623). -/
  countdown_pos : 1 ≤ s.countdown
  /-- The countdown is at most the period of the rate it was last loaded with, which is TAC's (R623, R625). -/
  countdown_le : s.countdown ≤ period (tacRate s.tac)

/-- The byte of plain memory that an address names, if it names one: an echo address names the byte of work RAM below it
(20_memory.md R75, R77). -/
def ramKey (a : Word) : Option Nat :=
  match classifyAddress a with
  | .ie | .hram | .oam | .wramx | .wram0 | .vram => some a.toNat
  | .echo => some (a.toNat - 0x2000)
  | .unused | .io | .eram | .romx | .rom0 => none

/-- The addresses that the cartridge answers (R74, R92). -/
def cartAddress (a : Word) : Prop :=
  classifyAddress a = .rom0 ∨ classifyAddress a = .romx ∨ classifyAddress a = .eram

/-- A CPU write at `a` may change what `x` reads: in plain memory the same byte alone; in the gap nothing; in the cartridge's
space what a banked cartridge answers; in the I/O block the register itself, and for DMA also OAM (R81, R87, R88, R90). -/
def mayChange (s : State) (a x : Word) : Prop :=
  match classifyAddress a with
  | .ie | .hram | .oam | .wramx | .wram0 | .vram | .echo => ramKey x = ramKey a
  | .unused => False
  | .io => x = a ∨ (a.toNat = 0xFF46 ∧ classifyAddress x = .oam)
  | .eram | .romx | .rom0 => s.cart.kind = .banked ∧ cartAddress x

/-- Every address that a CPU write at `a` may not change reads in `t` as in `s`. -/
def readsSameBut (s t : State) (a : Word) : Prop := ∀ x : Word, ¬ mayChange s a x → t.readByte x = s.readByte x

/-- The clock cycles of the primary table, taken and not taken, one list for each high digit of the opcode (70_reset_and_hazards.md
R715). The entry of the prefix 0xCB is not used: the CB table has its own costs. -/
def cycleTable : List (List (Nat × Nat)) :=
  [[(4, 4), (12, 12), (8, 8), (8, 8), (4, 4), (4, 4), (8, 8), (4, 4), (20, 20), (8, 8), (8, 8), (8, 8), (4, 4), (4, 4),
    (8, 8), (4, 4)],
   [(4, 4), (12, 12), (8, 8), (8, 8), (4, 4), (4, 4), (8, 8), (4, 4), (12, 12), (8, 8), (8, 8), (8, 8), (4, 4), (4, 4),
    (8, 8), (4, 4)],
   [(12, 8), (12, 12), (8, 8), (8, 8), (4, 4), (4, 4), (8, 8), (4, 4), (12, 8), (8, 8), (8, 8), (8, 8), (4, 4), (4, 4),
    (8, 8), (4, 4)],
   [(12, 8), (12, 12), (8, 8), (8, 8), (12, 12), (12, 12), (12, 12), (4, 4), (12, 8), (8, 8), (8, 8), (8, 8), (4, 4),
    (4, 4), (8, 8), (4, 4)]] ++
  [[(4, 4), (4, 4), (4, 4), (4, 4), (4, 4), (4, 4), (8, 8), (4, 4), (4, 4), (4, 4), (4, 4), (4, 4), (4, 4), (4, 4),
    (8, 8), (4, 4)],
   [(4, 4), (4, 4), (4, 4), (4, 4), (4, 4), (4, 4), (8, 8), (4, 4), (4, 4), (4, 4), (4, 4), (4, 4), (4, 4), (4, 4),
    (8, 8), (4, 4)],
   [(4, 4), (4, 4), (4, 4), (4, 4), (4, 4), (4, 4), (8, 8), (4, 4), (4, 4), (4, 4), (4, 4), (4, 4), (4, 4), (4, 4),
    (8, 8), (4, 4)],
   [(8, 8), (8, 8), (8, 8), (8, 8), (8, 8), (8, 8), (4, 4), (8, 8), (4, 4), (4, 4), (4, 4), (4, 4), (4, 4), (4, 4),
    (8, 8), (4, 4)]] ++
  [[(4, 4), (4, 4), (4, 4), (4, 4), (4, 4), (4, 4), (8, 8), (4, 4), (4, 4), (4, 4), (4, 4), (4, 4), (4, 4), (4, 4),
    (8, 8), (4, 4)],
   [(4, 4), (4, 4), (4, 4), (4, 4), (4, 4), (4, 4), (8, 8), (4, 4), (4, 4), (4, 4), (4, 4), (4, 4), (4, 4), (4, 4),
    (8, 8), (4, 4)],
   [(4, 4), (4, 4), (4, 4), (4, 4), (4, 4), (4, 4), (8, 8), (4, 4), (4, 4), (4, 4), (4, 4), (4, 4), (4, 4), (4, 4),
    (8, 8), (4, 4)],
   [(4, 4), (4, 4), (4, 4), (4, 4), (4, 4), (4, 4), (8, 8), (4, 4), (4, 4), (4, 4), (4, 4), (4, 4), (4, 4), (4, 4),
    (8, 8), (4, 4)]] ++
  [[(20, 8), (12, 12), (16, 12), (16, 16), (24, 12), (16, 16), (8, 8), (16, 16), (20, 8), (16, 16), (16, 12), (0, 0),
    (24, 12), (24, 24), (8, 8), (16, 16)],
   [(20, 8), (12, 12), (16, 12), (4, 4), (24, 12), (16, 16), (8, 8), (16, 16), (20, 8), (16, 16), (16, 12), (4, 4),
    (24, 12), (4, 4), (8, 8), (16, 16)],
   [(12, 12), (12, 12), (8, 8), (4, 4), (4, 4), (16, 16), (8, 8), (16, 16), (16, 16), (4, 4), (16, 16), (4, 4), (4, 4),
    (4, 4), (8, 8), (16, 16)],
   [(12, 12), (12, 12), (8, 8), (4, 4), (4, 4), (16, 16), (8, 8), (16, 16), (12, 12), (8, 8), (16, 16), (4, 4), (4, 4),
    (4, 4), (8, 8), (16, 16)]]

/-- Whether the condition in bits 4 and 3 of an opcode holds (30_encoding.md R136). -/
def conditionHolds (op : Byte) (s : State) : Bool :=
  match op.extractLsb' 3 2 with
  | 0#2 => !s.f.getLsbD 7
  | 1#2 => s.f.getLsbD 7
  | 2#2 => !s.f.getLsbD 4
  | _ => s.f.getLsbD 4

/-- The opcodes that may move pc away from the next instruction: JR, JP, CALL, RET, RETI and RST (45_control.md). -/
def pcWriters : List Byte :=
  [0x18, 0x20, 0x28, 0x30, 0x38, 0xC2, 0xC3, 0xCA, 0xD2, 0xDA, 0xE9] ++ [0xC4, 0xCC, 0xCD, 0xD4, 0xDC] ++
  [0xC0, 0xC8, 0xC9, 0xD0, 0xD8, 0xD9] ++ [0xC7, 0xCF, 0xD7, 0xDF, 0xE7, 0xEF, 0xF7, 0xFF]

/-- The opcodes that may write SP: its loads and arithmetic, POP, PUSH, CALL, RET, RETI and RST. -/
def spWriters : List Byte :=
  [0x31, 0x33, 0x3B, 0xE8, 0xF9, 0xC1, 0xD1, 0xE1, 0xF1, 0xC5, 0xD5, 0xE5, 0xF5] ++ [0xC4, 0xCC, 0xCD, 0xD4, 0xDC] ++
  [0xC0, 0xC8, 0xC9, 0xD0, 0xD8, 0xD9] ++ [0xC7, 0xCF, 0xD7, 0xDF, 0xE7, 0xEF, 0xF7, 0xFF]

/-- The opcodes outside 0x80-0xBF and the CB table that may write F: the arithmetic of 42_alu8.md and 43_alu16.md but INC rr and
DEC rr, the accumulator rotates, LD HL,SP+e and POP AF. -/
def flagWriters : List Byte :=
  [0x04, 0x05, 0x0C, 0x0D, 0x14, 0x15, 0x1C, 0x1D, 0x24, 0x25, 0x2C, 0x2D, 0x34, 0x35, 0x3C, 0x3D] ++
  [0x07, 0x0F, 0x17, 0x1F, 0x27, 0x2F, 0x37, 0x3F, 0x09, 0x19, 0x29, 0x39] ++
  [0xC6, 0xCE, 0xD6, 0xDE, 0xE6, 0xEE, 0xF6, 0xFE, 0xE8, 0xF8, 0xF1]

/-- The opcodes outside the CB table that may store to memory. -/
def storingOpcodes : List Byte :=
  [0x02, 0x08, 0x12, 0x22, 0x32, 0x34, 0x35, 0x36, 0x70, 0x71, 0x72, 0x73, 0x74, 0x75, 0x77, 0xE0, 0xE2, 0xEA] ++
  [0xC5, 0xD5, 0xE5, 0xF5, 0xC4, 0xCC, 0xCD, 0xD4, 0xDC, 0xC7, 0xCF, 0xD7, 0xDF, 0xE7, 0xEF, 0xF7, 0xFF]

end Sys2Proof.Machine
end

