-- ==== Sys2Proof/Certificates/Slice0/Obligations.lean ====
section
/-! DEFINITION. The statements about the model, from the numbered rules of spec/. An instruction is named by the bytes of its
encoding: `decode3 b0 b1 b2` is the instruction at the front of three bytes. A meaning runs with pc past the instruction's
bytes (log 7), and `s.cycles` counts its cost, so that `exec i s = .next { s with … }` says its whole effect and its frame. -/

open Sys2Proof Sys2Proof.Machine

/-! ## Reset and the invariant -/

/-- After reset every register, the control state, the timer and every byte that the bus owns hold the values of the spec, and
the cartridge keeps its own state (10_state.md R57, R58; 70_reset_and_hazards.md R702, R703), with whatever cartridge, joypad,
peripherals and parameters the machine is built with. `State.reset` is one such state (its own choices: log 2 to log 5). -/
def Obligations.ResetState : Prop :=
  (∀ (cart : Cart) (joy : List (Byte × Byte)) (periph : List PeriphMove) (params : Params),
    let s := State.powerOn cart joy periph params
    (s.a = 0x01 ∧ s.f = 0xB0 ∧ s.b = 0x00 ∧ s.c = 0x13 ∧ s.d = 0x00 ∧ s.e = 0xD8 ∧ s.h = 0x01 ∧ s.l = 0x4D) ∧
    (s.sp = 0xFFFE ∧ s.pc = 0x0100 ∧ s.ime = false ∧ s.eiPending = false ∧ s.mode = .running ∧ s.cycles = 0) ∧
    (s.sysCounter = 0 ∧ s.countdown = 1024) ∧
    (let table : List (Nat × Byte) :=
      [(0xFF10, 0x80), (0xFF11, 0xBF), (0xFF12, 0xF3), (0xFF14, 0xBF), (0xFF16, 0x3F), (0xFF19, 0xBF), (0xFF1A, 0x7F)] ++
      [(0xFF1B, 0xFF), (0xFF1C, 0x9F), (0xFF1E, 0xBF), (0xFF20, 0xFF), (0xFF23, 0xBF), (0xFF24, 0x77), (0xFF25, 0xF3)] ++
      [(0xFF26, 0xF1), (0xFF40, 0x91), (0xFF47, 0xFC), (0xFF48, 0xFF), (0xFF49, 0xFF)]
    (∀ p ∈ table, s.cell p.1 = p.2) ∧ ∀ k : Nat, k ≤ 0xFFFF → k ∉ table.map Prod.fst → s.cell k = 0x00) ∧
    s.cart = cart) ∧
  ∃ cart joy periph params, State.reset = State.powerOn cart joy periph params

/-- The invariant holds at every reset with a valid cartridge (20_memory.md R93), and at `State.reset`. -/
def Obligations.ResetKeepsInvariant : Prop :=
  (∀ (cart : Cart) (joy : List (Byte × Byte)) (periph : List PeriphMove) (params : Params),
    cart.valid → Inv (State.powerOn cart joy periph params)) ∧ Inv State.reset

/-- A step keeps the invariant: memory in canonical form and of the bus's own bytes alone, a valid cartridge, the low nibble of F
zero (R34), DIV equal to the counter's high byte (R86), the countdown between 1 and its period (R623). -/
def Obligations.StepKeepsInvariant : Prop :=
  ∀ s t : State, Inv s → step s = .next t → Inv t

/-! ## Decoding -/

/-- Every well-formed instruction, with every operand at every value, is what the decoder reads from its encoding, whatever bytes
follow. -/
def Obligations.DecodeEncodeRoundTrip : Prop :=
  ∀ (i : Instr) (rest : List Byte), wellFormed i = true → decode (encode i ++ rest) = .ok (i, rest)

/-- Whatever bytes the decoder accepts are the encoding of a well-formed instruction, with the rest after it. -/
def Obligations.DecodedBytesAreAnEncoding : Prop :=
  ∀ (bytes rest : List Byte) (i : Instr), decode bytes = .ok (i, rest) → wellFormed i = true ∧ encode i ++ rest = bytes

/-- The opcode byte alone fixes the length, as 30_encoding.md R143 lists it, and the decoder takes that many bytes: it accepts
every list that has so many, and refuses only a shorter one. -/
def Obligations.OpcodeFixesTheLength : Prop :=
  (∀ op : Byte, instrLength op =
    if op ∈ ([0x01, 0x11, 0x21, 0x31, 0x08, 0xC2, 0xC3, 0xC4, 0xCA, 0xCC, 0xCD, 0xD2, 0xD4, 0xDA, 0xDC, 0xEA, 0xFA] : List Byte)
    then 3
    else if op ∈ ([0x06, 0x0E, 0x16, 0x1E, 0x26, 0x2E, 0x36, 0x3E, 0x10, 0x18, 0x20, 0x28, 0x30, 0x38] ++
      [0xC6, 0xCE, 0xD6, 0xDE, 0xE6, 0xEE, 0xF6, 0xFE, 0xE0, 0xF0, 0xE8, 0xF8, 0xCB] : List Byte) then 2
    else 1) ∧
  ∀ (op : Byte) (bytes : List Byte),
    (instrLength op ≤ bytes.length + 1 → ∃ i, decode (op :: bytes) = .ok (i, bytes.drop (instrLength op - 1))) ∧
    (bytes.length + 1 < instrLength op → decode (op :: bytes) = .error (.truncated op))

/-- Words written out bit by bit from the encodings of the spec, one of each format (30_encoding.md R130), and two lists too short. -/
def Obligations.SpecWordsDecode : Prop :=
  decode [0b00000000] = .ok (.nop, []) ∧
  decode [0b01000001] = .ok (.ld_B_C, []) ∧
  decode [0b01110110] = .ok (.halt, []) ∧
  decode [0b00111110, 0x5A] = .ok (.ld_A_n 0x5A, []) ∧
  decode [0b00110000, 0xFE] = .ok (.jr_NC_e 0xFE, []) ∧
  decode [0b11100000, 0x80] = .ok (.ldh_mn_A 0x80, []) ∧
  decode [0b11000011, 0x50, 0x01] = .ok (.jp_nn 0x0150, []) ∧
  decode [0b11001011, 0b01111100] = .ok (.bit_7_H, []) ∧
  decode [0b11001011, 0b00110110] = .ok (.swap_mHL, []) ∧
  decode [0b00010000, 0x00] = .ok (.stop 0x00, []) ∧
  decode [] = .error .noBytes ∧
  decode [0b11001011] = .error (.truncated 0xCB)

/-- The eleven opcodes without an instruction, and no other bytes, decode to `undefined`, one byte long (30_encoding.md R140). Under
ILLEGAL_OPCODE_POLICY = nop each writes no state and costs 4 cycles; under stuck there is no successor state (46_system.md R495).
The model's own: that stuck is written as a fault which names the opcode (log 6), that the eleven are one constructor which carries
its opcode (log 13), and that the report, an observation for the host, is left out (log 11). Constructor: undefined. -/
def Obligations.UndefinedOpcodes : Prop :=
  (∀ b0 b1 b2 op : Byte, decode3 b0 b1 b2 = .undefined op ↔ b0 = op ∧
    op ∈ ([0xD3, 0xDB, 0xDD, 0xE3, 0xE4, 0xEB, 0xEC, 0xED, 0xF4, 0xFC, 0xFD] : List Byte)) ∧
  (∀ op : Byte, op ∈ ([0xD3, 0xDB, 0xDD, 0xE3, 0xE4, 0xEB, 0xEC, 0xED, 0xF4, 0xFC, 0xFD] : List Byte) → instrLength op = 1) ∧
  (∀ (op : Byte) (s : State), s.params.illegalOpcodePolicy = .nop →
    exec (.undefined op) s = .next { s with cycles := s.cycles + 4 }) ∧
  (∀ (op : Byte) (s : State), s.params.illegalOpcodePolicy = .stuck →
    exec (.undefined op) s = .fault (.stuckOnUndefinedOpcode op))

/-- The CB table read flat and read by its fields does the same for every second byte (30_encoding.md R132), and always goes on.
`cbPrefix` runs it by its fields (log 12). Constructor: cbPrefix. -/
def Obligations.CbTableFlatAndByFieldsAgree : Prop :=
  ∀ (op2 b2 : Byte) (s : State),
    exec (.cbPrefix op2) s = exec (decode3 0xCB op2 b2) s ∧ ∃ t, exec (.cbPrefix op2) s = .next t

/-! ## The step -/

/-- A step of a running core runs the instruction that the bytes at pc decode to, on as many bytes `n` as it needs, with pc past
those bytes and the cycle count at 0, after a pending EI has set IME; then come the phases of `finishStep` (60_exceptions.md
R602, phases 1 and 2; 30_encoding.md R131). -/
def Obligations.StepRunsDecodedInstruction : Prop :=
  ∀ (s : State) (n : Nat) (i : Instr) (rest : List Byte),
    s.mode = .running →
    decode ((List.range n).map (fun j => s.readByte (s.pc + BitVec.ofNat 16 j))) = .ok (i, rest) →
    let s0 : State := if s.eiPending then { s with ime := true, eiPending := false } else s
    step s =
      match exec i { s0 with pc := s.pc + BitVec.ofNat 16 (encode i).length, cycles := 0 } with
      | .next t => .next (t.finishStep t.cycles)
      | .fault r => .fault r
      | .refused r => .refused r

/-- The phases after an instruction or a wait of `c` cycles: the timer, then the peripherals, then the interrupt check: a stopped
core wakes by IF bit 4 alone and serves nothing; otherwise a pending interrupt wakes the core and, with IME, the first one is
taken, after which the timer and the peripherals advance by its 20 cycles; the step returns the sum (60_exceptions.md R602,
phases 3 to 5; R603, R605, R606, R615). -/
def Obligations.FinishStepPhases : Prop :=
  ∀ (s : State) (c : Nat),
    let d := (s.timerAdvance c).peripheralsAdvance
    let pending := d.cell 0xFF0F &&& d.cell 0xFFFF &&& 0x1F
    (d.mode = .stopped →
      s.finishStep c = { d with mode := if (d.cell 0xFF0F).getLsbD 4 then .running else .stopped, returned := c }) ∧
    (d.mode ≠ .stopped → pending = 0 → s.finishStep c = { d with returned := c }) ∧
    (d.mode ≠ .stopped → pending ≠ 0 → d.ime = false → s.finishStep c = { d with mode := .running, returned := c }) ∧
    (d.mode ≠ .stopped → pending ≠ 0 → d.ime = true →
      ∃ k, selectPendingInterrupt (d.cell 0xFF0F) (d.cell 0xFFFF) = some k ∧
        s.finishStep c =
          { ((({ d with mode := .running } : State).service k).timerAdvance 20).peripheralsAdvance with returned := c + 20 })

/-- A step of a halted or stopped core fetches nothing and costs 4 cycles; the registers stay, and pc and SP change only by a service
entry, which a stopped core never takes (60_exceptions.md R607, R608). -/
def Obligations.WaitingStep : Prop :=
  ∀ s : State, s.mode ≠ .running →
    let s0 : State := if s.eiPending then { s with ime := true, eiPending := false } else s
    step s = .next (s0.finishStep 4) ∧
    let t := s0.finishStep 4
    (t.a = s.a ∧ t.f = s.f ∧ t.b = s.b ∧ t.c = s.c ∧ t.d = s.d ∧ t.e = s.e ∧ t.h = s.h ∧ t.l = s.l) ∧
    (t.returned = 4 ∨ t.returned = 24) ∧
    (t.returned = 4 → t.pc = s.pc ∧ t.sp = s.sp ∧ t.ime = s0.ime) ∧
    (s.mode = .stopped → t.returned = 4)

/-- No step is refused, a step faults only on an undefined opcode of a running core under ILLEGAL_OPCODE_POLICY = stuck, and under
nop every state has a next one: the CPU raises no exception (60_exceptions.md R600; 46_system.md R495). That stuck is written as a
fault is the model's (log 6). -/
def Obligations.EveryStepGoesOn : Prop :=
  (∀ (s : State) (r : Refusal), step s ≠ .refused r) ∧
  (∀ s : State, s.params.illegalOpcodePolicy = .nop → ∃ t, step s = .next t) ∧
  (∀ (s : State) (r : Fault), step s = .fault r → s.params.illegalOpcodePolicy = .stuck ∧ s.mode = .running ∧
    s.readByte s.pc ∈ ([0xD3, 0xDB, 0xDD, 0xE3, 0xE4, 0xEB, 0xEC, 0xED, 0xF4, 0xFC, 0xFD] : List Byte) ∧
    r = .stuckOnUndefinedOpcode (s.readByte s.pc))

/-- A step returns between 4 and 44 cycles, a multiple of 4 (70_reset_and_hazards.md R716). -/
def Obligations.StepReturnsFourToFortyFour : Prop :=
  ∀ s t : State, step s = .next t → 4 ≤ t.returned ∧ t.returned ≤ 44 ∧ t.returned % 4 = 0

/-- Every instruction costs what the timing table says: of the two counts of a conditional transfer, the first if its condition holds;
of the CB table, 8, or with `(HL)` 16, or 12 for BIT (70_reset_and_hazards.md R715). -/
def Obligations.InstructionCosts : Prop :=
  ∀ (i : Instr) (s t : State), wellFormed i = true → exec i s = .next t →
    let b0 := (encode i).getD 0 0
    let b1 := (encode i).getD 1 0
    if b0 = 0xCB then
      t.cycles = s.cycles + if b1.extractLsb' 0 3 ≠ 6#3 then 8 else if b1.extractLsb' 6 2 = 1#2 then 12 else 16
    else
      ∃ taken notTaken, (cycleTable[b0.toNat / 16]?.getD [])[b0.toNat % 16]? = some (taken, notTaken) ∧
        t.cycles = s.cycles + if conditionHolds b0 s then taken else notTaken

/-- A step changes no ROM byte and no kind of cartridge, and no parameter; so with the ROM-only cartridge every ROM address reads as
before, and the unused gap reads one byte for the whole run (20_memory.md R76, R90, R91). -/
def Obligations.StepKeepsRomAndParameters : Prop :=
  ∀ s t : State, step s = .next t →
    t.cart.rom = s.cart.rom ∧ t.cart.kind = s.cart.kind ∧ t.params = s.params ∧
    (∀ a : Word, 0xFEA0 ≤ a.toNat → a.toNat ≤ 0xFEFF → t.readByte a = s.readByte a) ∧
    (s.cart.kind = .romOnly → ∀ a : Word, a.toNat < 0x8000 → t.readByte a = s.readByte a)

/-- Only EI, DI and RETI change IME or the pending EI (and EI not IME), only HALT and STOP the mode, and no instruction touches the
joypad, the peripherals or the parameters (10_state.md R39, R40, R42). -/
def Obligations.OnlySystemInstructionsChangeControlState : Prop :=
  ∀ (i : Instr) (s t : State), wellFormed i = true → exec i s = .next t →
    let b0 := (encode i).getD 0 0
    (b0 ∉ ([0xF3, 0xD9] : List Byte) → t.ime = s.ime) ∧
    (b0 ∉ ([0xF3, 0xFB, 0xD9] : List Byte) → t.eiPending = s.eiPending) ∧
    (b0 ∉ ([0x76, 0x10] : List Byte) → t.mode = s.mode) ∧
    (t.joy = s.joy ∧ t.periph = s.periph ∧ t.params = s.params ∧ t.returned = s.returned)

/-- Which instructions may move pc, which may write SP, which may write a flag, and which may write memory, the cartridge or the
timer's counters; every other one leaves them (10_state.md R37, R38; 45_control.md R459; for the flags 10_state.md R35 and the
Flags lines of the rules of files 40 to 46; for memory 20_memory.md R102, R103). -/
def Obligations.WhatEachOpcodeMayWrite : Prop :=
  ∀ (i : Instr) (s t : State), wellFormed i = true → exec i s = .next t →
    let b0 := (encode i).getD 0 0
    let b1 := (encode i).getD 1 0
    (b0 ∉ pcWriters → t.pc = s.pc) ∧
    (b0 ∉ spWriters → t.sp = s.sp) ∧
    (b0 ∉ flagWriters → ¬ (0x80 ≤ b0.toNat ∧ b0.toNat < 0xC0) → ¬ (b0 = 0xCB ∧ b1.toNat < 0x80) → t.f = s.f) ∧
    (b0 ∉ storingOpcodes → ¬ (b0 = 0xCB ∧ b1.extractLsb' 0 3 = 6#3 ∧ b1.extractLsb' 6 2 ≠ 1#2) →
      t.mem = s.mem ∧ t.cart = s.cart ∧ t.sysCounter = s.sysCounter ∧ t.countdown = s.countdown)

/-! ## Registers and the bus -/

/-- The fields of an encoding name registers, pairs and conditions as the spec numbers them, the pairs are views of two halves with
the high half first, a flag byte holds Z, N, H, C in bits 7 to 4 and zeros below, and a write of F keeps bits 7 to 4 alone
(10_state.md R32, R34; 30_encoding.md R133 to R136). -/
def Obligations.RegisterOperands : Prop :=
  (Reg8.b.code = 0 ∧ Reg8.c.code = 1 ∧ Reg8.d.code = 2 ∧ Reg8.e.code = 3 ∧ Reg8.h.code = 4 ∧ Reg8.l.code = 5 ∧
    Reg8.a.code = 7) ∧
  (Reg16.bc.code = 0 ∧ Reg16.de.code = 1 ∧ Reg16.hl.code = 2 ∧ Reg16.sp.code = 3) ∧
  (RegStk.bc.code = 0 ∧ RegStk.de.code = 1 ∧ RegStk.hl.code = 2 ∧ RegStk.af.code = 3) ∧
  (Cond.nz.code = 0 ∧ Cond.z.code = 1 ∧ Cond.nc.code = 2 ∧ Cond.c.code = 3) ∧
  (∀ (s : State) (r q : Reg8) (v : Byte),
    (s.r8 .b = s.b ∧ s.r8 .c = s.c ∧ s.r8 .d = s.d ∧ s.r8 .e = s.e ∧ s.r8 .h = s.h ∧ s.r8 .l = s.l ∧ s.r8 .a = s.a) ∧
    (s.setR8 .b v = { s with b := v } ∧ s.setR8 .c v = { s with c := v } ∧ s.setR8 .d v = { s with d := v } ∧
      s.setR8 .e v = { s with e := v } ∧ s.setR8 .h v = { s with h := v } ∧ s.setR8 .l v = { s with l := v } ∧
      s.setR8 .a v = { s with a := v }) ∧
    (s.setR8 r v).r8 q = if q = r then v else s.r8 q) ∧
  (∀ (s : State) (w : Word),
    (s.r16 .bc = s.b ++ s.c ∧ s.r16 .de = s.d ++ s.e ∧ s.r16 .hl = s.h ++ s.l ∧ s.r16 .sp = s.sp ∧ s.hl = s.h ++ s.l) ∧
    (s.rstk .bc = s.b ++ s.c ∧ s.rstk .de = s.d ++ s.e ∧ s.rstk .hl = s.h ++ s.l ∧ s.rstk .af = s.a ++ s.f) ∧
    (∀ p : Reg16, (s.setR16 p w).r16 p = w) ∧
    (∀ p : RegStk, (s.setRstk p w).rstk p = if p = .af then w &&& 0xFFF0 else w) ∧
    (s.setR16 .bc w = { s with b := w.extractLsb' 8 8, c := w.extractLsb' 0 8 } ∧
      s.setR16 .de w = { s with d := w.extractLsb' 8 8, e := w.extractLsb' 0 8 } ∧
      s.setR16 .hl w = { s with h := w.extractLsb' 8 8, l := w.extractLsb' 0 8 } ∧ s.setR16 .sp w = { s with sp := w })) ∧
  (∀ s : State, s.cond .nz = !s.f.getLsbD 7 ∧ s.cond .z = s.f.getLsbD 7 ∧ s.cond .nc = !s.f.getLsbD 4 ∧
    s.cond .c = s.f.getLsbD 4) ∧
  (∀ z n h c : Bool,
    let f := flagByte z n h c
    f.getLsbD 7 = z ∧ f.getLsbD 6 = n ∧ f.getLsbD 5 = h ∧ f.getLsbD 4 = c ∧ f &&& 0x0F = 0) ∧
  (∀ (s : State) (v : Byte), s.setF v = { s with f := v &&& 0xF0 })

/-- Every address lies in exactly one of the twelve regions, at the bounds of the map (20_memory.md R71, R73). -/
def Obligations.AddressRegions : Prop :=
  ∀ a : Word,
    (classifyAddress a = .rom0 ↔ a.toNat ≤ 0x3FFF) ∧
    (classifyAddress a = .romx ↔ 0x4000 ≤ a.toNat ∧ a.toNat ≤ 0x7FFF) ∧
    (classifyAddress a = .vram ↔ 0x8000 ≤ a.toNat ∧ a.toNat ≤ 0x9FFF) ∧
    (classifyAddress a = .eram ↔ 0xA000 ≤ a.toNat ∧ a.toNat ≤ 0xBFFF) ∧
    (classifyAddress a = .wram0 ↔ 0xC000 ≤ a.toNat ∧ a.toNat ≤ 0xCFFF) ∧
    (classifyAddress a = .wramx ↔ 0xD000 ≤ a.toNat ∧ a.toNat ≤ 0xDFFF) ∧
    (classifyAddress a = .echo ↔ 0xE000 ≤ a.toNat ∧ a.toNat ≤ 0xFDFF) ∧
    (classifyAddress a = .oam ↔ 0xFE00 ≤ a.toNat ∧ a.toNat ≤ 0xFE9F) ∧
    (classifyAddress a = .unused ↔ 0xFEA0 ≤ a.toNat ∧ a.toNat ≤ 0xFEFF) ∧
    (classifyAddress a = .io ↔ 0xFF00 ≤ a.toNat ∧ a.toNat ≤ 0xFF7F) ∧
    (classifyAddress a = .hram ↔ 0xFF80 ≤ a.toNat ∧ a.toNat ≤ 0xFFFE) ∧
    (classifyAddress a = .ie ↔ a.toNat = 0xFFFF)

/-- VRAM, WRAM, OAM, HRAM and IE store every byte written and return it, in every state; every address that does not name the same
byte reads as before; and nothing but memory changes. An echo address reads and writes the byte of work RAM 0x2000 below it
(20_memory.md R75, R77). -/
def Obligations.PlainMemoryAndEcho : Prop :=
  (∀ (s : State) (a : Word) (v : Byte),
    classifyAddress a ∈ [Region.vram, .wram0, .wramx, .oam, .hram, .ie] →
    let t := s.writeByte a v
    t.readByte a = v ∧ t = { s with mem := t.mem } ∧
    ∀ x : Word, x ≠ a → ¬ (classifyAddress x = .echo ∧ x.toNat = a.toNat + 0x2000) → t.readByte x = s.readByte x) ∧
  ∀ (s : State) (a : Word) (v : Byte), classifyAddress a = .echo →
    0xC000 ≤ (a - 0x2000).toNat ∧ (a - 0x2000).toNat ≤ 0xDDFF ∧
    s.readByte a = s.readByte (a - 0x2000) ∧ s.writeByte a v = s.writeByte (a - 0x2000) v ∧
    (s.writeByte a v).readByte (a - 0x2000) = v

/-- Reads of ROM and of external RAM are the cartridge's answers, and writes there go to it; a write to ROM is a banking write and
changes no ROM byte; the unused gap reads the parameter and drops writes; the ROM-only cartridge answers its bytes and 0xFF and
stays as it is (20_memory.md R74, R76, R90 to R92). -/
def Obligations.CartridgeAndGap : Prop :=
  (∀ (s : State) (a : Word) (v : Byte), a.toNat ≤ 0x7FFF →
    s.readByte a = s.cart.readROM a ∧ s.writeByte a v = { s with cart := s.cart.handleBankingWrite a v } ∧
    (s.writeByte a v).cart.rom = s.cart.rom) ∧
  (∀ (s : State) (a : Word) (v : Byte), 0xA000 ≤ a.toNat → a.toNat ≤ 0xBFFF →
    s.readByte a = s.cart.readRAM a ∧ s.writeByte a v = { s with cart := s.cart.writeRAM a v }) ∧
  (∀ (s : State) (a : Word) (v : Byte), 0xFEA0 ≤ a.toNat → a.toNat ≤ 0xFEFF →
    s.readByte a = s.params.gapReadValue ∧ s.writeByte a v = s) ∧
  (∀ (c : Cart) (a : Word) (v : Byte), c.kind = .romOnly →
    c.readROM a = Memory.read c.rom a.toNat ∧ c.readRAM a = 0xFF ∧ c.writeRAM a v = c ∧ c.handleBankingWrite a v = c)

/-- A read of the I/O block: P1 asks the joypad with the stored byte, DIV is the counter's high byte, and equals the stored byte where
the invariant holds, and every other register reads its stored byte (20_memory.md R86). -/
def Obligations.IoReads : Prop :=
  ∀ s : State,
    s.readByte 0xFF00 = joypadAnswer s.joy (s.cell 0xFF00) ∧
    (∀ v : Byte, s.joy.lookup (s.cell 0xFF00) = some v → s.readByte 0xFF00 = v) ∧
    s.readByte 0xFF04 = s.sysCounter.extractLsb' 8 8 ∧
    (Inv s → s.readByte 0xFF04 = s.cell 0xFF04) ∧
    ∀ a : Word, 0xFF00 ≤ a.toNat → a.toNat ≤ 0xFF7F → a ≠ 0xFF00 → a ≠ 0xFF04 → s.readByte a = s.cell a.toNat

/-- A CPU write to the I/O block, with its masks and side effects (20_memory.md R87): P1 keeps its low nibble, DIV resets the counter
and leaves the countdown, TAC reloads the countdown, LY stores 0, DMA stores and copies, every other register stores the byte. -/
def Obligations.IoWrites : Prop :=
  (∀ (s : State) (k : Nat) (v : Byte),
    (∀ k', (s.setCell k v).cell k' = if k' = k then v else s.cell k') ∧
    s.setCell k v = { s with mem := (s.setCell k v).mem }) ∧
  ∀ (s : State) (v : Byte),
    s.writeByte 0xFF00 v = s.setCell 0xFF00 ((v &&& 0xF0) ||| (s.cell 0xFF00 &&& 0x0F)) ∧
    s.writeByte 0xFF04 v = { s.setCell 0xFF04 0x00 with sysCounter := 0 } ∧
    s.writeByte 0xFF07 v = { s.setCell 0xFF07 v with
      countdown := match v.extractLsb' 0 2 with | 0#2 => 1024 | 1#2 => 16 | 2#2 => 64 | _ => 256 } ∧
    s.writeByte 0xFF44 v = s.setCell 0xFF44 0x00 ∧
    s.writeByte 0xFF46 v = (s.setCell 0xFF46 v).oamDma v ∧
    ∀ a : Word, 0xFF00 ≤ a.toNat → a.toNat ≤ 0xFF7F → a ∉ ([0xFF00, 0xFF04, 0xFF07, 0xFF44, 0xFF46] : List Word) →
      s.writeByte a v = s.setCell a.toNat v

/-- A write of v to DMA stores v and copies the 160 bytes from v << 8 to OAM, each as the bus reads it, within the write; nothing
outside OAM changes (20_memory.md R88, R89). -/
def Obligations.OamDmaCopies160Bytes : Prop :=
  ∀ (s : State) (v : Byte),
    let s1 := s.setCell 0xFF46 v
    let t := s.writeByte 0xFF46 v
    (∀ i : Nat, i < 160 → t.readByte (BitVec.ofNat 16 (0xFE00 + i)) = s1.readByte (BitVec.ofNat 16 (v.toNat * 256 + i))) ∧
    (∀ x : Word, classifyAddress x ≠ .oam → t.readByte x = s1.readByte x) ∧
    t = { s with mem := t.mem }

/-- A privileged write stores the byte of an I/O register with no mask and no side effect, and is a CPU write elsewhere; an interrupt
request sets one bit of IF and touches nothing else (20_memory.md R84, R85). -/
def Obligations.PrivilegedWrites : Prop :=
  (∀ (s : State) (a : Word) (v : Byte), 0xFF00 ≤ a.toNat → a.toNat ≤ 0xFF7F → s.forceWrite a v = s.setCell a.toNat v) ∧
  (∀ (s : State) (a : Word) (v : Byte), ¬ (0xFF00 ≤ a.toNat ∧ a.toNat ≤ 0xFF7F) → s.forceWrite a v = s.writeByte a v) ∧
  (∀ (s : State) (k : Nat), k ≤ 4 →
    let t := s.requestInterrupt k
    (∀ j : Nat, j < 8 → (t.cell 0xFF0F).getLsbD j = ((s.cell 0xFF0F).getLsbD j || j == k)) ∧
    (∀ x : Nat, x ≠ 0xFF0F → t.cell x = s.cell x) ∧ t = { s with mem := t.mem })

/-- A word access is two byte accesses, the low byte at the low address and first, and the address wraps (20_memory.md R82, R83). -/
def Obligations.WordAccess : Prop :=
  ∀ (s : State) (a w : Word),
    s.readWord a = s.readByte (BitVec.ofNat 16 (a.toNat + 1)) ++ s.readByte a ∧
    s.readWord 0xFFFF = s.readByte 0x0000 ++ s.readByte 0xFFFF ∧
    s.writeWord a w =
      (s.writeByte a (w.extractLsb' 0 8)).writeByte (BitVec.ofNat 16 (a.toNat + 1)) (w.extractLsb' 8 8)

/-! ## Loads -/

/-- LD r,r' copies a register, LD r,n an immediate, LD r,(HL) the byte at the old HL; nothing else changes but the cycle count
(40_load8.md R200, R201, R202). Constructors: ld_{B,C,D,E,H,L,A}_{B,C,D,E,H,L,A}, ld_{B,C,D,E,H,L,A}_n,
ld_{B,C,D,E,H,L,A}_mHL. -/
def Obligations.LoadRegister : Prop :=
  ∀ (s : State) (dst src : Reg8) (b1 b2 : Byte),
    exec (decode3 (0b01#2 ++ dst.code ++ src.code) b1 b2) s = .next { s.setR8 dst (s.r8 src) with cycles := s.cycles + 4 } ∧
    exec (decode3 (0b00#2 ++ dst.code ++ 0b110#3) b1 b2) s = .next { s.setR8 dst b1 with cycles := s.cycles + 8 } ∧
    exec (decode3 (0b01#2 ++ dst.code ++ 0b110#3) b1 b2) s =
      .next { s.setR8 dst (s.readByte (s.h ++ s.l)) with cycles := s.cycles + 8 }

/-- LD (HL),r and LD (HL),n write one byte at HL through the bus, and nothing else but the cycle count; every address that this
write may not change reads as before (40_load8.md R203, R204). Constructors: ld_mHL_{B,C,D,E,H,L,A}, ld_mHL_n. -/
def Obligations.StoreAtHL : Prop :=
  ∀ (s : State) (r : Reg8) (b1 b2 : Byte),
    (∃ t, exec (decode3 (0b01110#5 ++ r.code) b1 b2) s = .next t ∧
      t = { s.writeByte (s.h ++ s.l) (s.r8 r) with cycles := s.cycles + 8 } ∧ readsSameBut s t (s.h ++ s.l)) ∧
    (∃ t, exec (decode3 0b00110110 b1 b2) s = .next t ∧
      t = { s.writeByte (s.h ++ s.l) b1 with cycles := s.cycles + 12 } ∧ readsSameBut s t (s.h ++ s.l))

/-- The loads of A from memory: from BC, DE, an absolute address, 0xFF00 + C, 0xFF00 + n, and from HL with HL then incremented or
decremented; no flag changes (40_load8.md R205, R206, R209, R211, R213, R215, R216). Constructors: ld_A_mBC, ld_A_mDE,
ld_A_mnn, ldh_A_mC, ldh_A_mn, ld_A_mHLI, ld_A_mHLD. -/
def Obligations.LoadAccumulatorFromMemory : Prop :=
  ∀ (s : State) (b1 b2 : Byte),
    exec (decode3 0b00001010 b1 b2) s = .next { s with a := s.readByte (s.b ++ s.c), cycles := s.cycles + 8 } ∧
    exec (decode3 0b00011010 b1 b2) s = .next { s with a := s.readByte (s.d ++ s.e), cycles := s.cycles + 8 } ∧
    exec (decode3 0b11111010 b1 b2) s = .next { s with a := s.readByte (b2 ++ b1), cycles := s.cycles + 16 } ∧
    exec (decode3 0b11110010 b1 b2) s = .next { s with a := s.readByte (0xFF#8 ++ s.c), cycles := s.cycles + 8 } ∧
    exec (decode3 0b11110000 b1 b2) s = .next { s with a := s.readByte (0xFF#8 ++ b1), cycles := s.cycles + 12 } ∧
    exec (decode3 0b00101010 b1 b2) s =
      .next { s.setR16 .hl ((s.h ++ s.l) + 1#16) with a := s.readByte (s.h ++ s.l), cycles := s.cycles + 8 } ∧
    exec (decode3 0b00111010 b1 b2) s =
      .next { s.setR16 .hl ((s.h ++ s.l) - 1#16) with a := s.readByte (s.h ++ s.l), cycles := s.cycles + 8 }

/-- The stores of A to memory: to BC, DE, an absolute address, 0xFF00 + C, 0xFF00 + n, and to the old HL with HL then incremented or
decremented; no flag changes, and every address that the write may not change reads as before (40_load8.md R207, R208, R210,
R212, R214, R217, R218). Constructors: ld_mBC_A, ld_mDE_A, ld_mnn_A, ldh_mC_A, ldh_mn_A, ld_mHLI_A, ld_mHLD_A. -/
def Obligations.StoreAccumulatorToMemory : Prop :=
  ∀ (s : State) (b1 b2 : Byte),
    let hl : Word := s.h ++ s.l
    (∃ t, exec (decode3 0b00000010 b1 b2) s = .next t ∧
      t = { s.writeByte (s.b ++ s.c) s.a with cycles := s.cycles + 8 } ∧ readsSameBut s t (s.b ++ s.c)) ∧
    (∃ t, exec (decode3 0b00010010 b1 b2) s = .next t ∧
      t = { s.writeByte (s.d ++ s.e) s.a with cycles := s.cycles + 8 } ∧ readsSameBut s t (s.d ++ s.e)) ∧
    (∃ t, exec (decode3 0b11101010 b1 b2) s = .next t ∧
      t = { s.writeByte (b2 ++ b1) s.a with cycles := s.cycles + 16 } ∧ readsSameBut s t (b2 ++ b1)) ∧
    (∃ t, exec (decode3 0b11100010 b1 b2) s = .next t ∧
      t = { s.writeByte (0xFF#8 ++ s.c) s.a with cycles := s.cycles + 8 } ∧ readsSameBut s t (0xFF#8 ++ s.c)) ∧
    (∃ t, exec (decode3 0b11100000 b1 b2) s = .next t ∧
      t = { s.writeByte (0xFF#8 ++ b1) s.a with cycles := s.cycles + 12 } ∧ readsSameBut s t (0xFF#8 ++ b1)) ∧
    (∃ t, exec (decode3 0b00100010 b1 b2) s = .next t ∧
      t = { (s.writeByte hl s.a).setR16 .hl (hl + 1) with cycles := s.cycles + 8 } ∧ readsSameBut s t hl) ∧
    (∃ t, exec (decode3 0b00110010 b1 b2) s = .next t ∧
      t = { (s.writeByte hl s.a).setR16 .hl (hl - 1) with cycles := s.cycles + 8 } ∧ readsSameBut s t hl)

/-- LD rr,nn loads a pair, LD SP,HL copies HL, LD (nn),SP stores SP with its low byte first; no flag changes (41_load16.md R260, R261,
R262). Constructors: ld_{BC,DE,HL,SP}_nn, ld_SP_HL, ld_mnn_SP. -/
def Obligations.LoadPairs : Prop :=
  ∀ (s : State) (p : Reg16) (b1 b2 : Byte),
    exec (decode3 (0b00#2 ++ p.code ++ 0b0001#4) b1 b2) s = .next { s.setR16 p (b2 ++ b1) with cycles := s.cycles + 12 } ∧
    exec (decode3 0b11111001 b1 b2) s = .next { s with sp := s.h ++ s.l, cycles := s.cycles + 8 } ∧
    (∃ t, exec (decode3 0b00001000 b1 b2) s = .next t ∧
      t = { (s.writeByte (b2 ++ b1) (s.sp.extractLsb' 0 8)).writeByte ((b2 ++ b1 : Word) + 1) (s.sp.extractLsb' 8 8) with
        cycles := s.cycles + 20 } ∧
      ∀ x : Word, ¬ mayChange s (b2 ++ b1) x → ¬ mayChange s ((b2 ++ b1 : Word) + 1) x → t.readByte x = s.readByte x)

/-- PUSH writes the pair's high half at SP - 1 and then its low half at SP - 2, and lowers SP by 2; POP reads the low half at SP and
the high half at SP + 1, and raises SP by 2; POP AF keeps bits 7 to 4 of F alone (41_load16.md R263, R264). Constructors:
push_{BC,DE,HL,AF}, pop_{BC,DE,HL,AF}. -/
def Obligations.PushAndPop : Prop :=
  ∀ (s : State) (p : RegStk) (b1 b2 : Byte),
    (∃ t, exec (decode3 (0b11#2 ++ p.code ++ 0b0101#4) b1 b2) s = .next t ∧
      t = { (s.writeByte (s.sp - 1) ((s.rstk p).extractLsb' 8 8)).writeByte (s.sp - 2) ((s.rstk p).extractLsb' 0 8) with
        sp := s.sp - 2, cycles := s.cycles + 16 } ∧
      ∀ x : Word, ¬ mayChange s (s.sp - 1) x → ¬ mayChange s (s.sp - 2) x → t.readByte x = s.readByte x) ∧
    exec (decode3 (0b11#2 ++ p.code ++ 0b0001#4) b1 b2) s =
      .next { s.setRstk p (s.readByte (s.sp + 1) ++ s.readByte s.sp) with sp := s.sp + 2, cycles := s.cycles + 12 }

/-- A pair pushed and then popped comes back, with SP as before, wherever both bytes go to memory that returns what is written
(41_load16.md R263, R264; 20_memory.md R75, R77). -/
def Obligations.PushThenPopRestores : Prop :=
  ∀ (s : State) (p : RegStk) (b1 b2 : Byte),
    ramKey (s.sp - 1) ≠ none → ramKey (s.sp - 2) ≠ none → s.f &&& 0x0F = 0 →
    ∃ t u, exec (decode3 (0b11#2 ++ p.code ++ 0b0101#4) b1 b2) s = .next t ∧
      exec (decode3 (0b11#2 ++ p.code ++ 0b0001#4) b1 b2) t = .next u ∧
      u = { s with mem := u.mem, cycles := s.cycles + 28 }

/-- ADD SP,e and LD HL,SP+e add the signed offset to SP; Z and N are cleared, H and C come from the unsigned sum of the low byte and
the offset (43_alu16.md R381, R385; 41_load16.md R265). Constructors: add_SP_e, ld_HL_SPe. -/
def Obligations.StackPointerPlusOffset : Prop :=
  ∀ (s : State) (e b2 : Byte),
    let sum : Word := BitVec.ofInt 16 (s.sp.toNat + e.toInt)
    let f := flagByte false false (decide (s.sp.toNat % 16 + e.toNat % 16 > 0x0F)) (decide (s.sp.toNat % 256 + e.toNat > 0xFF))
    exec (decode3 0b11101000 e b2) s = .next { s with sp := sum, f := f, cycles := s.cycles + 16 } ∧
    exec (decode3 0b11111000 e b2) s = .next { s.setR16 .hl sum with f := f, cycles := s.cycles + 12 }

/-! ## Arithmetic and logic -/

/-- ADD and ADC: A is the sum mod 256, Z says that it is 0, N is cleared, H is the carry out of bit 3 and C out of bit 7, with the old
carry added by ADC; the three operand forms (42_alu8.md R300, R310 to R315). Constructors: add_A_{B,C,D,E,H,L,A,mHL,n},
adc_A_{B,C,D,E,H,L,A,mHL,n}. -/
def Obligations.AddAndAddWithCarry : Prop :=
  ∀ (s : State) (r : Reg8) (b1 b2 : Byte),
    let sum (b : Byte) (cin cost : Nat) : State := { s with
      a := BitVec.ofNat 8 (s.a.toNat + b.toNat + cin)
      f := flagByte (decide ((s.a.toNat + b.toNat + cin) % 256 = 0)) false
        (decide (s.a.toNat % 16 + b.toNat % 16 + cin > 0xF)) (decide (s.a.toNat + b.toNat + cin > 0xFF))
      cycles := s.cycles + cost }
    let carry := (s.f.getLsbD 4).toNat
    exec (decode3 (0b10000#5 ++ r.code) b1 b2) s = .next (sum (s.r8 r) 0 4) ∧
    exec (decode3 0b10000110 b1 b2) s = .next (sum (s.readByte (s.h ++ s.l)) 0 8) ∧
    exec (decode3 0b11000110 b1 b2) s = .next (sum b1 0 8) ∧
    exec (decode3 (0b10001#5 ++ r.code) b1 b2) s = .next (sum (s.r8 r) carry 4) ∧
    exec (decode3 0b10001110 b1 b2) s = .next (sum (s.readByte (s.h ++ s.l)) carry 8) ∧
    exec (decode3 0b11001110 b1 b2) s = .next (sum b1 carry 8)

/-- SUB, SBC and CP: the difference mod 256, Z says that it is 0, N is set, H is the borrow out of the low nibble and C the borrow out
of the byte, with the old carry subtracted by SBC; CP writes the flags and not A; the three operand forms (42_alu8.md R301,
R316 to R321, R331 to R333). Constructors: sub_{B,C,D,E,H,L,A,mHL,n}, sbc_A_{B,C,D,E,H,L,A,mHL,n}, cp_{B,C,D,E,H,L,A,mHL,n}. -/
def Obligations.SubtractAndCompare : Prop :=
  ∀ (s : State) (r : Reg8) (b1 b2 : Byte),
    let flags (b : Byte) (cin : Nat) : Byte :=
      flagByte (decide (((s.a.toNat : Int) - b.toNat - cin) % 256 = 0)) true
        (decide (s.a.toNat % 16 < b.toNat % 16 + cin)) (decide (s.a.toNat < b.toNat + cin))
    let difference (b : Byte) (cin cost : Nat) : State := { s with
      a := BitVec.ofInt 8 ((s.a.toNat : Int) - b.toNat - cin)
      f := flags b cin
      cycles := s.cycles + cost }
    let compared (b : Byte) (cost : Nat) : State := { s with f := flags b 0, cycles := s.cycles + cost }
    let carry := (s.f.getLsbD 4).toNat
    exec (decode3 (0b10010#5 ++ r.code) b1 b2) s = .next (difference (s.r8 r) 0 4) ∧
    exec (decode3 0b10010110 b1 b2) s = .next (difference (s.readByte (s.h ++ s.l)) 0 8) ∧
    exec (decode3 0b11010110 b1 b2) s = .next (difference b1 0 8) ∧
    exec (decode3 (0b10011#5 ++ r.code) b1 b2) s = .next (difference (s.r8 r) carry 4) ∧
    exec (decode3 0b10011110 b1 b2) s = .next (difference (s.readByte (s.h ++ s.l)) carry 8) ∧
    exec (decode3 0b11011110 b1 b2) s = .next (difference b1 carry 8) ∧
    exec (decode3 (0b10111#5 ++ r.code) b1 b2) s = .next (compared (s.r8 r) 4) ∧
    exec (decode3 0b10111110 b1 b2) s = .next (compared (s.readByte (s.h ++ s.l)) 8) ∧
    exec (decode3 0b11111110 b1 b2) s = .next (compared b1 8)

/-- AND, XOR and OR: the bitwise result, Z says that it is 0, N and C are cleared, H is set by AND and cleared by XOR and OR; the three
operand forms (42_alu8.md R302, R322 to R330). Constructors: and_{B,C,D,E,H,L,A,mHL,n}, xor_{B,C,D,E,H,L,A,mHL,n},
or_{B,C,D,E,H,L,A,mHL,n}. -/
def Obligations.BitwiseLogic : Prop :=
  ∀ (s : State) (r : Reg8) (b1 b2 : Byte),
    let out (res : Byte) (h : Bool) (cost : Nat) : State := { s with
      a := res, f := flagByte (decide (res = 0)) false h false, cycles := s.cycles + cost }
    let m := s.readByte (s.h ++ s.l)
    exec (decode3 (0b10100#5 ++ r.code) b1 b2) s = .next (out (s.a &&& s.r8 r) true 4) ∧
    exec (decode3 0b10100110 b1 b2) s = .next (out (s.a &&& m) true 8) ∧
    exec (decode3 0b11100110 b1 b2) s = .next (out (s.a &&& b1) true 8) ∧
    exec (decode3 (0b10101#5 ++ r.code) b1 b2) s = .next (out (s.a ^^^ s.r8 r) false 4) ∧
    exec (decode3 0b10101110 b1 b2) s = .next (out (s.a ^^^ m) false 8) ∧
    exec (decode3 0b11101110 b1 b2) s = .next (out (s.a ^^^ b1) false 8) ∧
    exec (decode3 (0b10110#5 ++ r.code) b1 b2) s = .next (out (s.a ||| s.r8 r) false 4) ∧
    exec (decode3 0b10110110 b1 b2) s = .next (out (s.a ||| m) false 8) ∧
    exec (decode3 0b11110110 b1 b2) s = .next (out (s.a ||| b1) false 8)

/-- INC and DEC of a byte wrap mod 256, set Z from the result, clear or set N, set H by the low nibble, and keep C; the form at HL
reads once and writes once (42_alu8.md R303, R340 to R343). Constructors: inc_{B,C,D,E,H,L,A}, dec_{B,C,D,E,H,L,A}, inc_mHL,
dec_mHL. -/
def Obligations.IncrementAndDecrementByte : Prop :=
  ∀ (s : State) (r : Reg8) (b1 b2 : Byte),
    let carry := s.f.getLsbD 4
    let incF (v : Byte) : Byte := flagByte (decide (v.toNat = 0xFF)) false (decide (v.toNat % 16 = 0xF)) carry
    let decF (v : Byte) : Byte := flagByte (decide (v.toNat = 0x01)) true (decide (v.toNat % 16 = 0x0)) carry
    let hl : Word := s.h ++ s.l
    let m := s.readByte hl
    exec (decode3 (0b00#2 ++ r.code ++ 0b100#3) b1 b2) s =
      .next { s.setR8 r (s.r8 r + 1) with f := incF (s.r8 r), cycles := s.cycles + 4 } ∧
    exec (decode3 (0b00#2 ++ r.code ++ 0b101#3) b1 b2) s =
      .next { s.setR8 r (s.r8 r - 1) with f := decF (s.r8 r), cycles := s.cycles + 4 } ∧
    (∃ t, exec (decode3 0b00110100 b1 b2) s = .next t ∧
      t = { s.writeByte hl (m + 1) with f := incF m, cycles := s.cycles + 12 } ∧ readsSameBut s t hl) ∧
    (∃ t, exec (decode3 0b00110101 b1 b2) s = .next t ∧
      t = { s.writeByte hl (m - 1) with f := decF m, cycles := s.cycles + 12 } ∧ readsSameBut s t hl)

/-- DAA, by the correction table: after an addition it adds 0x60 if C or A > 0x99, and 0x06 if H or the low digit is over 9, and sets C
with the first; after a subtraction it subtracts 0x60 if C and 0x06 if H, and keeps C; Z from the result, N kept, H cleared
(42_alu8.md R350). Constructor: daa. -/
def Obligations.DecimalAdjust : Prop :=
  ∀ (s : State) (b1 b2 : Byte),
    let n := s.f.getLsbD 6
    let h := s.f.getLsbD 5
    let c := s.f.getLsbD 4
    let high : Bool := c || (!n && decide (s.a.toNat > 0x99))
    let low : Bool := h || (!n && decide (s.a.toNat % 16 > 9))
    let adjust : Int := (if high then 0x60 else 0) + (if low then 0x06 else 0)
    let res : Byte := BitVec.ofInt 8 (if n then s.a.toNat - adjust else s.a.toNat + adjust)
    exec (decode3 0b00100111 b1 b2) s =
      .next { s with a := res, f := flagByte (decide (res = 0)) n false high, cycles := s.cycles + 4 }

/-- DAA corrects binary arithmetic on two decimal digits: after ADC A,B of two decimal numbers A holds their decimal sum mod 100 and C
says that it reached 100; after SBC A,B the decimal difference mod 100 and C says that it was below 0 (42_alu8.md R350, with
R313 and R319). -/
def Obligations.DecimalAdjustCorrectsBcd : Prop :=
  ∀ (s : State) (x y : Nat), x < 100 → y < 100 →
    s.a.toNat = x / 10 * 16 + x % 10 → s.b.toNat = y / 10 * 16 + y % 10 →
    let carry := (s.f.getLsbD 4).toNat
    (∃ t u, exec .adc_A_B s = .next t ∧ exec .daa t = .next u ∧
      u.a.toNat = (x + y + carry) % 100 / 10 * 16 + (x + y + carry) % 10 ∧
      u.f.getLsbD 4 = decide (x + y + carry ≥ 100) ∧ u.f.getLsbD 7 = decide ((x + y + carry) % 100 = 0)) ∧
    (∃ t u, exec .sbc_A_B s = .next t ∧ exec .daa t = .next u ∧
      u.a.toNat = (100 + x - y - carry) % 100 / 10 * 16 + (100 + x - y - carry) % 10 ∧
      u.f.getLsbD 4 = decide (x < y + carry) ∧ u.f.getLsbD 7 = decide ((100 + x - y - carry) % 100 = 0))

/-- CPL complements A, sets N and H and keeps Z and C; SCF sets C and CCF complements it, both clear N and H and keep Z (42_alu8.md
R351, R352, R353). Constructors: cpl, scf, ccf. -/
def Obligations.ComplementAndCarryFlag : Prop :=
  ∀ (s : State) (b1 b2 : Byte),
    let z := s.f.getLsbD 7
    let c := s.f.getLsbD 4
    exec (decode3 0b00101111 b1 b2) s = .next { s with
      a := BitVec.ofNat 8 (255 - s.a.toNat), f := flagByte z true true c, cycles := s.cycles + 4 } ∧
    exec (decode3 0b00110111 b1 b2) s = .next { s with f := flagByte z false false true, cycles := s.cycles + 4 } ∧
    exec (decode3 0b00111111 b1 b2) s = .next { s with f := flagByte z false false (!c), cycles := s.cycles + 4 }

/-- ADD HL,rr: the sum mod 65536, Z kept, N cleared, H the carry out of bit 11 and C out of bit 15; INC rr and DEC rr wrap and write no
flag (43_alu16.md R380, R382, R383, R384). Constructors: add_HL_{BC,DE,HL,SP}, inc_{BC,DE,HL,SP}, dec_{BC,DE,HL,SP}. -/
def Obligations.PairArithmetic : Prop :=
  ∀ (s : State) (p : Reg16) (b1 b2 : Byte),
    let x := (s.r16 .hl).toNat
    let y := (s.r16 p).toNat
    exec (decode3 (0b00#2 ++ p.code ++ 0b1001#4) b1 b2) s = .next { s.setR16 .hl (BitVec.ofNat 16 (x + y)) with
      f := flagByte (s.f.getLsbD 7) false (decide (x % 4096 + y % 4096 > 0x0FFF)) (decide (x + y > 0xFFFF))
      cycles := s.cycles + 8 } ∧
    exec (decode3 (0b00#2 ++ p.code ++ 0b0011#4) b1 b2) s =
      .next { s.setR16 p (BitVec.ofNat 16 (y + 1)) with cycles := s.cycles + 8 } ∧
    exec (decode3 (0b00#2 ++ p.code ++ 0b1011#4) b1 b2) s =
      .next { s.setR16 p (BitVec.ofNat 16 (y + 65535)) with cycles := s.cycles + 8 }

/-! ## Rotates, shifts and bits -/

/-- RLCA, RRCA, RLA and RRA rotate A, put the bit shifted out in C, and clear Z even when the result is 0, and N and H
(44_rotate_shift_bit.md R400 to R403). Constructors: rlca, rrca, rla, rra. -/
def Obligations.AccumulatorRotates : Prop :=
  ∀ (s : State) (b1 b2 : Byte),
    let v := s.a.toNat
    let cf := (s.f.getLsbD 4).toNat
    let out (res : Nat) (c : Bool) : State := { s with
      a := BitVec.ofNat 8 res, f := flagByte false false false c, cycles := s.cycles + 4 }
    exec (decode3 0b00000111 b1 b2) s = .next (out (2 * v + v / 128) (decide (v / 128 = 1))) ∧
    exec (decode3 0b00001111 b1 b2) s = .next (out (v / 2 + 128 * (v % 2)) (decide (v % 2 = 1))) ∧
    exec (decode3 0b00010111 b1 b2) s = .next (out (2 * v + cf) (decide (v / 128 = 1))) ∧
    exec (decode3 0b00011111 b1 b2) s = .next (out (v / 2 + 128 * cf) (decide (v % 2 = 1)))

/-- The eight rotates and shifts of the CB table on a register: the result by R405, Z from it, N and H cleared, C the bit shifted out and
0 for SWAP (44_rotate_shift_bit.md R410, R412, R414, R416, R418, R420, R422, R424). Constructors: rlc_, rrc_, rl_, rr_, sla_,
sra_, swap_ and srl_ with {B,C,D,E,H,L,A}. -/
def Obligations.RotateAndShiftRegister : Prop :=
  ∀ (s : State) (r : Reg8) (b2 : Byte),
    let v := (s.r8 r).toNat
    let cf := (s.f.getLsbD 4).toNat
    let out (res : Nat) (c : Bool) : State := { s.setR8 r (BitVec.ofNat 8 res) with
      f := flagByte (decide (res % 256 = 0)) false false c, cycles := s.cycles + 8 }
    exec (decode3 0xCB (0b00000#5 ++ r.code) b2) s = .next (out (2 * v + v / 128) (decide (v / 128 = 1))) ∧
    exec (decode3 0xCB (0b00001#5 ++ r.code) b2) s = .next (out (v / 2 + 128 * (v % 2)) (decide (v % 2 = 1))) ∧
    exec (decode3 0xCB (0b00010#5 ++ r.code) b2) s = .next (out (2 * v + cf) (decide (v / 128 = 1))) ∧
    exec (decode3 0xCB (0b00011#5 ++ r.code) b2) s = .next (out (v / 2 + 128 * cf) (decide (v % 2 = 1))) ∧
    exec (decode3 0xCB (0b00100#5 ++ r.code) b2) s = .next (out (2 * v) (decide (v / 128 = 1))) ∧
    exec (decode3 0xCB (0b00101#5 ++ r.code) b2) s = .next (out (v / 2 + v / 128 * 128) (decide (v % 2 = 1))) ∧
    exec (decode3 0xCB (0b00110#5 ++ r.code) b2) s = .next (out (v % 16 * 16 + v / 16) false) ∧
    exec (decode3 0xCB (0b00111#5 ++ r.code) b2) s = .next (out (v / 2) (decide (v % 2 = 1)))

/-- The same eight on the byte at HL: one read, then one write; every address that this write may not change reads as before
(44_rotate_shift_bit.md R411, R413, R415, R417, R419, R421, R423, R425). Constructors: rlc_mHL, rrc_mHL, rl_mHL, rr_mHL,
sla_mHL, sra_mHL, swap_mHL, srl_mHL. -/
def Obligations.RotateAndShiftMemory : Prop :=
  ∀ (s : State) (b2 : Byte),
    let hl : Word := s.h ++ s.l
    let v := (s.readByte hl).toNat
    let cf := (s.f.getLsbD 4).toNat
    let gives (y : BitVec 5) (res : Nat) (c : Bool) : Prop :=
      ∃ t, exec (decode3 0xCB (y ++ 0b110#3) b2) s = .next t ∧
        t = { s.writeByte hl (BitVec.ofNat 8 res) with
          f := flagByte (decide (res % 256 = 0)) false false c, cycles := s.cycles + 16 } ∧
        readsSameBut s t hl
    gives 0b00000 (2 * v + v / 128) (decide (v / 128 = 1)) ∧
    gives 0b00001 (v / 2 + 128 * (v % 2)) (decide (v % 2 = 1)) ∧
    gives 0b00010 (2 * v + cf) (decide (v / 128 = 1)) ∧
    gives 0b00011 (v / 2 + 128 * cf) (decide (v % 2 = 1)) ∧
    gives 0b00100 (2 * v) (decide (v / 128 = 1)) ∧
    gives 0b00101 (v / 2 + v / 128 * 128) (decide (v % 2 = 1)) ∧
    gives 0b00110 (v % 16 * 16 + v / 16) false ∧
    gives 0b00111 (v / 2) (decide (v % 2 = 1))

/-- BIT b sets Z to the inverse of bit b, clears N, sets H, keeps C, and writes nothing else (44_rotate_shift_bit.md R430, R431).
Constructors: bit_{0..7}_{B,C,D,E,H,L,A,mHL}. -/
def Obligations.BitTest : Prop :=
  ∀ (s : State) (b : BitVec 3) (r : Reg8) (b2 : Byte),
    exec (decode3 0xCB (0b01#2 ++ b ++ r.code) b2) s = .next { s with
      f := flagByte (!(s.r8 r).getLsbD b.toNat) false true (s.f.getLsbD 4), cycles := s.cycles + 8 } ∧
    exec (decode3 0xCB (0b01#2 ++ b ++ 0b110#3) b2) s = .next { s with
      f := flagByte (!(s.readByte (s.h ++ s.l)).getLsbD b.toNat) false true (s.f.getLsbD 4), cycles := s.cycles + 12 }

/-- RES b clears bit b and SET b sets it, every other bit and every flag as before; the form at HL reads once and writes once
(44_rotate_shift_bit.md R432 to R435). Constructors: res_{0..7}_{B,C,D,E,H,L,A,mHL}, set_{0..7}_{B,C,D,E,H,L,A,mHL}. -/
def Obligations.BitResetAndSet : Prop :=
  ∀ (s : State) (b : BitVec 3) (r : Reg8) (b2 : Byte),
    let hl : Word := s.h ++ s.l
    let replaced (old new : Byte) (bit : Bool) : Prop :=
      ∀ i : Nat, i < 8 → new.getLsbD i = if i = b.toNat then bit else old.getLsbD i
    (∃ v, replaced (s.r8 r) v false ∧
      exec (decode3 0xCB (0b10#2 ++ b ++ r.code) b2) s = .next { s.setR8 r v with cycles := s.cycles + 8 }) ∧
    (∃ v, replaced (s.r8 r) v true ∧
      exec (decode3 0xCB (0b11#2 ++ b ++ r.code) b2) s = .next { s.setR8 r v with cycles := s.cycles + 8 }) ∧
    (∃ v t, replaced (s.readByte hl) v false ∧ exec (decode3 0xCB (0b10#2 ++ b ++ 0b110#3) b2) s = .next t ∧
      t = { s.writeByte hl v with cycles := s.cycles + 16 } ∧ readsSameBut s t hl) ∧
    (∃ v t, replaced (s.readByte hl) v true ∧ exec (decode3 0xCB (0b11#2 ++ b ++ 0b110#3) b2) s = .next t ∧
      t = { s.writeByte hl v with cycles := s.cycles + 16 } ∧ readsSameBut s t hl)

/-! ## Control and system instructions -/

/-- JP nn and JP HL set pc, JR e adds the signed displacement to the address of the next instruction, and JP cc and JR cc do so if the
condition holds, at the larger cost, and otherwise write nothing, at the smaller (45_control.md R450 to R454, R459).
Constructors: jp_nn, jp_HL, jp_{NZ,Z,NC,C}_nn, jr_e, jr_{NZ,Z,NC,C}_e. -/
def Obligations.Jumps : Prop :=
  ∀ (s : State) (cc : Cond) (b1 b2 : Byte),
    let relative : Word := BitVec.ofInt 16 (s.pc.toNat + b1.toInt)
    exec (decode3 0b11000011 b1 b2) s = .next { s with pc := b2 ++ b1, cycles := s.cycles + 16 } ∧
    exec (decode3 0b11101001 b1 b2) s = .next { s with pc := s.h ++ s.l, cycles := s.cycles + 4 } ∧
    exec (decode3 0b00011000 b1 b2) s = .next { s with pc := relative, cycles := s.cycles + 12 } ∧
    exec (decode3 (0b110#3 ++ cc.code ++ 0b010#3) b1 b2) s =
      .next (if s.cond cc then { s with pc := b2 ++ b1, cycles := s.cycles + 16 } else { s with cycles := s.cycles + 12 }) ∧
    exec (decode3 (0b001#3 ++ cc.code ++ 0b000#3) b1 b2) s =
      .next (if s.cond cc then { s with pc := relative, cycles := s.cycles + 12 } else { s with cycles := s.cycles + 8 })

/-- CALL nn, CALL cc,nn where the condition holds, and RST push the address of the next instruction, its high byte first, and jump; CALL
cc where it does not hold writes nothing (45_control.md R455, R456, R459, R463). Constructors: call_nn, call_{NZ,Z,NC,C}_nn,
rst_{00,08,10,18,20,28,30,38}H. -/
def Obligations.CallsAndRestarts : Prop :=
  ∀ (s : State) (cc : Cond) (y : BitVec 3) (b1 b2 : Byte),
    let pushed := (s.writeByte (s.sp - 1) (s.pc.extractLsb' 8 8)).writeByte (s.sp - 2) (s.pc.extractLsb' 0 8)
    (∀ x : Word, ¬ mayChange s (s.sp - 1) x → ¬ mayChange s (s.sp - 2) x → pushed.readByte x = s.readByte x) ∧
    exec (decode3 0b11001101 b1 b2) s =
      .next { pushed with sp := s.sp - 2, pc := b2 ++ b1, cycles := s.cycles + 24 } ∧
    exec (decode3 (0b110#3 ++ cc.code ++ 0b100#3) b1 b2) s =
      .next (if s.cond cc then { pushed with sp := s.sp - 2, pc := b2 ++ b1, cycles := s.cycles + 24 }
        else { s with cycles := s.cycles + 12 }) ∧
    exec (decode3 (0b11#2 ++ y ++ 0b111#3) b1 b2) s =
      .next { pushed with sp := s.sp - 2, pc := BitVec.ofNat 16 (8 * y.toNat), cycles := s.cycles + 16 }

/-- RET, and RET cc where the condition holds, pop pc, the low byte first; RET cc where it does not hold writes nothing; RETI pops pc,
sets IME at once and drops a pending EI (45_control.md R457, R458, R459, R462). Constructors: ret, ret_{NZ,Z,NC,C}, reti. -/
def Obligations.Returns : Prop :=
  ∀ (s : State) (cc : Cond) (b1 b2 : Byte),
    let popped : Word := s.readByte (s.sp + 1) ++ s.readByte s.sp
    exec (decode3 0b11001001 b1 b2) s = .next { s with pc := popped, sp := s.sp + 2, cycles := s.cycles + 16 } ∧
    exec (decode3 (0b110#3 ++ cc.code ++ 0b000#3) b1 b2) s =
      .next (if s.cond cc then { s with pc := popped, sp := s.sp + 2, cycles := s.cycles + 20 }
        else { s with cycles := s.cycles + 8 }) ∧
    exec (decode3 0b11011001 b1 b2) s =
      .next { s with pc := popped, sp := s.sp + 2, ime := true, eiPending := false, cycles := s.cycles + 16 }

/-- A RET undoes a CALL or an RST: pc is again the address after the call, and SP as before, wherever both bytes of the return address
go to memory that returns what is written (45_control.md R455, R457, R463; 20_memory.md R75, R77). -/
def Obligations.ReturnUndoesCall : Prop :=
  ∀ (s : State) (nn : Word) (y : BitVec 3) (b1 b2 : Byte),
    ramKey (s.sp - 1) ≠ none → ramKey (s.sp - 2) ≠ none →
    (∃ t u, exec (.call_nn nn) s = .next t ∧ t.pc = nn ∧ exec .ret t = .next u ∧
      u = { s with mem := u.mem, cycles := s.cycles + 40 }) ∧
    (∃ t u, exec (decode3 (0b11#2 ++ y ++ 0b111#3) b1 b2) s = .next t ∧ t.pc = BitVec.ofNat 16 (8 * y.toNat) ∧
      exec .ret t = .next u ∧ u = { s with mem := u.mem, cycles := s.cycles + 32 })

/-- NOP writes nothing, HALT and STOP set the mode, and STOP ignores its second byte, DI clears IME and a pending EI at once, EI leaves
IME and sets the pending EI; each costs 4 cycles (46_system.md R490 to R494). Constructors: nop, halt, stop, di, ei. -/
def Obligations.SystemInstructions : Prop :=
  ∀ (s : State) (b1 b2 : Byte),
    exec (decode3 0b00000000 b1 b2) s = .next { s with cycles := s.cycles + 4 } ∧
    exec (decode3 0b01110110 b1 b2) s = .next { s with mode := .halted, cycles := s.cycles + 4 } ∧
    exec (decode3 0b00010000 b1 b2) s = .next { s with mode := .stopped, cycles := s.cycles + 4 } ∧
    instrLength 0b00010000 = 2 ∧
    exec (decode3 0b11110011 b1 b2) s = .next { s with ime := false, eiPending := false, cycles := s.cycles + 4 } ∧
    exec (decode3 0b11111011 b1 b2) s = .next { s with eiPending := true, cycles := s.cycles + 4 }

/-! ## Interrupts, timer and peripherals -/

/-- The selection answers the lowest bit of the five that is both requested and enabled, and none exactly when there is none; the vectors
are 0x40, 0x48, 0x50, 0x58, 0x60 in the order of priority (60_exceptions.md R610, R612). -/
def Obligations.PrioritySelection : Prop :=
  (∀ (req en : Byte) (k : InterruptSource), selectPendingInterrupt req en = some k ↔
    ((req &&& en).getLsbD (sourceBit k) = true ∧ ∀ j : Nat, j < sourceBit k → (req &&& en).getLsbD j = false)) ∧
  (∀ req en : Byte, selectPendingInterrupt req en = none ↔ req &&& en &&& 0x1F = 0) ∧
  (sourceBit .vblank = 0 ∧ sourceBit .lcdStatus = 1 ∧ sourceBit .timer = 2 ∧ sourceBit .serial = 3 ∧ sourceBit .joypad = 4) ∧
  (vector .vblank = 0x0040 ∧ vector .lcdStatus = 0x0048 ∧ vector .timer = 0x0050 ∧ vector .serial = 0x0058 ∧
    vector .joypad = 0x0060)

/-- Taking interrupt k clears bit k of IF alone, then pushes pc, its high byte first, sets pc to the vector and clears IME; no other
register and no flag changes (60_exceptions.md R613). -/
def Obligations.ServiceEntry : Prop :=
  ∀ (s : State) (k : InterruptSource),
    let cleared := s.setCell 0xFF0F (s.cell 0xFF0F &&& ~~~(1#8 <<< sourceBit k))
    s.service k =
      { (cleared.writeByte (s.sp - 1) (s.pc.extractLsb' 8 8)).writeByte (s.sp - 2) (s.pc.extractLsb' 0 8) with
        sp := s.sp - 2, pc := BitVec.ofNat 16 (0x0040 + 8 * sourceBit k), ime := false } ∧
    (∀ j : Nat, j < 8 →
      (cleared.cell 0xFF0F).getLsbD j = ((s.cell 0xFF0F).getLsbD j && decide (j ≠ sourceBit k))) ∧
    let t := s.service k
    (t.a = s.a ∧ t.f = s.f ∧ t.b = s.b ∧ t.c = s.c ∧ t.d = s.d ∧ t.e = s.e ∧ t.h = s.h ∧ t.l = s.l) ∧
    t.mode = s.mode ∧ t.eiPending = s.eiPending ∧ serviceCycles = 20

/-- A pending EI takes effect at the start of a step: the step is that of the state with IME set. EI's own step, with no EI pending and IME
clear, leaves IME clear and takes no interrupt; and a step that then runs DI takes none either (60_exceptions.md R604; 46_system.md
R493, R494; 70_reset_and_hazards.md R711). -/
def Obligations.EiTakesEffectOneStepLate : Prop :=
  (∀ s : State, s.eiPending = true → step s = step { s with ime := true, eiPending := false }) ∧
  (∀ s : State, s.mode = .running → s.readByte s.pc = 0xFB → s.ime = false → s.eiPending = false →
    ∃ t, step s = .next t ∧ t.ime = false ∧ t.eiPending = true ∧ t.pc = s.pc + 1 ∧ t.sp = s.sp ∧ t.returned = 4) ∧
  (∀ s : State, s.mode = .running → s.readByte s.pc = 0xF3 →
    ∃ t, step s = .next t ∧ t.ime = false ∧ t.eiPending = false ∧ t.pc = s.pc + 1 ∧ t.sp = s.sp ∧ t.returned = 4)

/-- A halted core with a pending interrupt wakes in the step: with IME clear it takes none and every IF bit stays; with IME set it takes one,
from pc, the byte after HALT. A stopped core wakes by IF bit 4 and takes none; without that bit, and with no move of the
peripherals to come, it stays stopped (60_exceptions.md R605, R606, R607). -/
def Obligations.WakingUp : Prop :=
  (∀ s : State, s.mode = .halted → s.eiPending = false → s.cell 0xFF0F &&& s.cell 0xFFFF &&& 0x1F ≠ 0 → s.ime = false →
    ∃ t, step s = .next t ∧ t.mode = .running ∧ t.ime = false ∧ t.pc = s.pc ∧ t.sp = s.sp ∧ t.returned = 4 ∧
      ∀ j : Nat, (s.cell 0xFF0F).getLsbD j = true → (t.cell 0xFF0F).getLsbD j = true) ∧
  (∀ s : State, s.mode = .halted → s.eiPending = false → s.cell 0xFF0F &&& s.cell 0xFFFF &&& 0x1F ≠ 0 → s.ime = true →
    ∃ t k, step s = .next t ∧ t.mode = .running ∧ t.ime = false ∧ t.pc = vector k ∧ t.sp = s.sp - 2 ∧ t.returned = 24) ∧
  (∀ s : State, s.mode = .stopped → (s.cell 0xFF0F).getLsbD 4 = true →
    ∃ t, step s = .next t ∧ t.mode = .running ∧ t.pc = s.pc ∧ t.sp = s.sp ∧ t.returned = 4 ∧ (t.cell 0xFF0F).getLsbD 4 = true) ∧
  (∀ s : State, s.mode = .stopped → (s.cell 0xFF0F).getLsbD 4 = false → s.periph = [] →
    ∃ t, step s = .next t ∧ t.mode = .stopped ∧ t.pc = s.pc ∧ t.sp = s.sp ∧ t.returned = 4)

/-- The timer's advance by c cycles: the system counter counts c mod 65536, and DIV is its high byte. With the timer disabled nothing else
changes. Enabled, with period p and a countdown of at least 1, TIMA counts exactly n = floor((c + p - countdown) / p) times; past 255
it goes on from TMA, and then, and only then, IF bit 2 is set (60_exceptions.md R621 to R624). The
closed form is the model's inference from R621's loop (log 10). -/
def Obligations.TimerCountsExactly : Prop :=
  ∀ (s : State) (c : Nat),
    let t := s.timerAdvance c
    let tac := s.cell 0xFF07
    (t = { s with mem := t.mem, sysCounter := t.sysCounter, countdown := t.countdown } ∧
      t.sysCounter.toNat = (s.sysCounter.toNat + c) % 65536 ∧ t.cell 0xFF04 = t.sysCounter.extractLsb' 8 8 ∧
      ∀ k : Nat, k ≠ 0xFF04 → k ≠ 0xFF05 → k ≠ 0xFF0F → t.cell k = s.cell k) ∧
    (tac.getLsbD 2 = false →
      t.countdown = s.countdown ∧ t.cell 0xFF05 = s.cell 0xFF05 ∧ t.cell 0xFF0F = s.cell 0xFF0F) ∧
    (tac.getLsbD 2 = true →
      let p : Nat := match tac.extractLsb' 0 2 with | 0#2 => 1024 | 1#2 => 16 | 2#2 => 64 | _ => 256
      1 ≤ s.countdown →
      let n := (c + p - s.countdown.toNat) / p
      let tima := (s.cell 0xFF05).toNat
      let tma := (s.cell 0xFF06).toNat
      t.countdown = s.countdown - c + n * p ∧
      (t.cell 0xFF05).toNat = (if tima + n ≤ 255 then tima + n else tma + (tima + n - 256) % (256 - tma)) ∧
      t.cell 0xFF0F = if tima + n ≤ 255 then s.cell 0xFF0F else s.cell 0xFF0F ||| 0x04)

/-- Advancing the timer by c1 and then by c2 cycles is advancing it by their sum, in every state that meets the invariant: no cycle is
counted twice and none is lost (60_exceptions.md R603, R623). -/
def Obligations.TimerAdvanceAddsUp : Prop :=
  ∀ (s : State) (c1 c2 : Nat), Inv s → (s.timerAdvance c1).timerAdvance c2 = s.timerAdvance (c1 + c2)

/-- One advance of the peripherals takes the next move, or changes nothing where none is left. It changes only the serial, audio and LCD
bytes, the joypad and IF; of IF it clears no bit, and it leaves bits 2, 5, 6 and 7 (60_exceptions.md R640; the list of moves is
the model's form of that relation, log 3). -/
def Obligations.PeripheralsAreBounded : Prop :=
  ∀ s : State,
    let t := s.peripheralsAdvance
    t = { s with mem := t.mem, joy := t.joy, periph := s.periph.tail } ∧
    (s.periph = [] → t = s) ∧
    (∀ k : Nat, k ≠ 0xFF0F → ¬ (0xFF01 ≤ k ∧ k ≤ 0xFF02) → ¬ (0xFF10 ≤ k ∧ k ≤ 0xFF3F) → ¬ (0xFF40 ≤ k ∧ k ≤ 0xFF4B) →
      t.cell k = s.cell k) ∧
    (∀ j : Nat, (s.cell 0xFF0F).getLsbD j = true → (t.cell 0xFF0F).getLsbD j = true) ∧
    (∀ j : Nat, j ∈ [2, 5, 6, 7] → (t.cell 0xFF0F).getLsbD j = (s.cell 0xFF0F).getLsbD j)
end

