-- ==== Sys2Proof/Laws/Memory.lean ====
section
/-! SUPPORT. The laws of memory: a read after a write, and every write keeps the canonical form. -/

namespace Sys2Proof.Machine

theorem Memory.read_insert (m : Memory) (k k' : Nat) (v : Byte) :
    Memory.read (Memory.insert m k v) k' = if k' = k then v else Memory.read m k' := by
  induction m with
  | nil => simp [Memory.insert, Memory.read]
  | cons x m ih =>
    obtain ⟨j, w⟩ := x
    simp only [Memory.insert]
    split
    · simp [Memory.read]
    · split
      · subst_vars; by_cases h : k' = j <;> simp [Memory.read, h]
      · simp only [Memory.read, ih]
        by_cases h : k' = j
        · subst h; simp; intro h2; omega
        · simp [h]

theorem Memory.read_erase (m : Memory) (k k' : Nat) :
    Memory.read (Memory.erase m k) k' = if k' = k then resetByte k else Memory.read m k' := by
  induction m with
  | nil => simp only [Memory.erase, List.filter_nil, Memory.read]; split <;> simp_all
  | cons x m ih =>
    obtain ⟨j, w⟩ := x
    simp only [Memory.erase] at ih ⊢
    by_cases hj : j = k
    · subst hj
      simp only [List.filter_cons, bne_self_eq_false, Bool.false_eq_true, if_false, ih, Memory.read]
      split <;> rfl
    · have hb : (j != k) = true := by simp [hj]
      simp only [List.filter_cons, hb, if_true, Memory.read, ih]
      by_cases h : k' = j
      · subst h; simp [hj]
      · simp [h]

/-- A read after a write: the byte written where it was written, and every other key as before. -/
theorem Memory.read_write (m : Memory) (k k' : Nat) (v : Byte) :
    Memory.read (Memory.write m k v) k' = if k' = k then v else Memory.read m k' := by
  unfold Memory.write
  split
  · rw [Memory.read_erase]; simp_all
  · exact Memory.read_insert m k k' v

theorem Memory.mem_insert {m : Memory} {k : Nat} {v : Byte} {cell : Host.Cell} (h : cell ∈ Memory.insert m k v) :
    cell = (k, v) ∨ cell ∈ m := by
  induction m with
  | nil => simpa [Memory.insert] using h
  | cons x m ih =>
    obtain ⟨j, w⟩ := x
    simp only [Memory.insert] at h
    split at h
    · simpa using h
    · split at h
      · simp only [List.mem_cons] at h ⊢; tauto
      · simp only [List.mem_cons] at h ⊢
        rcases h with h | h
        · tauto
        · rcases ih h with h | h <;> tauto

theorem Memory.rising_insert {m : Memory} (k : Nat) (v : Byte) (h : m.Pairwise (fun x y => x.1 < y.1)) :
    (Memory.insert m k v).Pairwise (fun x y => x.1 < y.1) := by
  induction m with
  | nil => simp [Memory.insert]
  | cons x m ih =>
    obtain ⟨j, w⟩ := x
    rw [List.pairwise_cons] at h
    simp only [Memory.insert]
    split
    · rw [List.pairwise_cons, List.pairwise_cons]
      refine ⟨?_, h.1, h.2⟩
      intro y hy
      rcases List.mem_cons.1 hy with rfl | hy
      · assumption
      · exact Nat.lt_trans ‹k < j› (h.1 y hy)
    · split
      · subst_vars; rw [List.pairwise_cons]; exact ⟨h.1, h.2⟩
      · rw [List.pairwise_cons]
        refine ⟨?_, ih h.2⟩
        intro y hy
        rcases Memory.mem_insert hy with rfl | hy
        · simp; omega
        · exact h.1 y hy

/-- Every write keeps the canonical form. -/
theorem Memory.wf_write {m : Memory} (k : Nat) (v : Byte) (h : Memory.wf m) : Memory.wf (Memory.write m k v) := by
  unfold Memory.write
  split
  · exact ⟨h.1.sublist List.filter_sublist, fun cell hc => h.2 cell (List.mem_of_mem_filter hc)⟩
  · refine ⟨Memory.rising_insert k v h.1, fun cell hc => ?_⟩
    rcases Memory.mem_insert hc with rfl | hc
    · assumption
    · exact h.2 cell hc

/-- A write lists no key but its own. -/
theorem Memory.mem_write {m : Memory} {k : Nat} {v : Byte} {cell : Host.Cell} (h : cell ∈ Memory.write m k v) :
    cell.1 = k ∨ cell ∈ m := by
  unfold Memory.write at h
  split at h
  · exact .inr (List.mem_of_mem_filter h)
  · rcases Memory.mem_insert h with rfl | h
    · exact .inl rfl
    · exact .inr h

/-- A byte of the bus after one is replaced. -/
@[simp] theorem cell_setCell (s : State) (k k' : Nat) (v : Byte) :
    (s.setCell k v).cell k' = if k' = k then v else s.cell k' := Memory.read_write s.mem k k' v

/-- The bytes of the bus depend on memory alone. -/
theorem cell_congr {s t : State} (h : t.mem = s.mem) (k : Nat) : t.cell k = s.cell k := by
  unfold State.cell; rw [h]

/-- The reset memory is in canonical form. -/
theorem reset_mem_wf : Memory.wf State.reset.mem := by decide

end Sys2Proof.Machine
end

