-- ==== Sys2Proof/Laws/State.lean ====
section
/-! SUPPORT. What each register update leaves and sets: one lemma per field per update, so that no proof unfolds an update. -/

namespace Sys2Proof.Machine

@[simp] theorem ofBytes_hi_lo (w : Word) : Word.ofBytes (Word.hi w) (Word.lo w) = w := by
  apply BitVec.eq_of_getLsbD_eq
  intro i hi
  show ((Word.hi w) ++ (Word.lo w) : BitVec (8+8)).getLsbD i = w.getLsbD i
  rw [BitVec.getLsbD_append]
  by_cases h : i < 8
  · simp [h, Word.lo]
  · simp [h, Word.hi, show i - 8 < 8 by omega, show 8 + (i - 8) = i by omega]
@[simp] theorem hi_ofBytes (x y : Byte) : Word.hi (Word.ofBytes x y) = x := by
  show (x ++ y : BitVec (8+8)).extractLsb' 8 8 = x
  exact BitVec.extractLsb'_append_eq_left
@[simp] theorem lo_ofBytes (x y : Byte) : Word.lo (Word.ofBytes x y) = y := by
  show (x ++ y : BitVec (8+8)).extractLsb' 0 8 = y
  exact BitVec.extractLsb'_append_eq_right

@[simp] theorem setF_a (s : State) (v : Byte) : (s.setF v).a = s.a := rfl
@[simp] theorem setF_f (s : State) (v : Byte) : (s.setF v).f = v &&& 0xF0 := rfl
@[simp] theorem setF_b (s : State) (v : Byte) : (s.setF v).b = s.b := rfl
@[simp] theorem setF_c (s : State) (v : Byte) : (s.setF v).c = s.c := rfl
@[simp] theorem setF_d (s : State) (v : Byte) : (s.setF v).d = s.d := rfl
@[simp] theorem setF_e (s : State) (v : Byte) : (s.setF v).e = s.e := rfl
@[simp] theorem setF_h (s : State) (v : Byte) : (s.setF v).h = s.h := rfl
@[simp] theorem setF_l (s : State) (v : Byte) : (s.setF v).l = s.l := rfl
@[simp] theorem setF_sp (s : State) (v : Byte) : (s.setF v).sp = s.sp := rfl
@[simp] theorem setF_pc (s : State) (v : Byte) : (s.setF v).pc = s.pc := rfl
@[simp] theorem setF_ime (s : State) (v : Byte) : (s.setF v).ime = s.ime := rfl
@[simp] theorem setF_eiPending (s : State) (v : Byte) : (s.setF v).eiPending = s.eiPending := rfl
@[simp] theorem setF_mode (s : State) (v : Byte) : (s.setF v).mode = s.mode := rfl
@[simp] theorem setF_cycles (s : State) (v : Byte) : (s.setF v).cycles = s.cycles := rfl
@[simp] theorem setF_returned (s : State) (v : Byte) : (s.setF v).returned = s.returned := rfl
@[simp] theorem setF_sysCounter (s : State) (v : Byte) : (s.setF v).sysCounter = s.sysCounter := rfl
@[simp] theorem setF_countdown (s : State) (v : Byte) : (s.setF v).countdown = s.countdown := rfl
@[simp] theorem setF_mem (s : State) (v : Byte) : (s.setF v).mem = s.mem := rfl
@[simp] theorem setF_cart (s : State) (v : Byte) : (s.setF v).cart = s.cart := rfl
@[simp] theorem setF_joy (s : State) (v : Byte) : (s.setF v).joy = s.joy := rfl
@[simp] theorem setF_periph (s : State) (v : Byte) : (s.setF v).periph = s.periph := rfl
@[simp] theorem setF_params (s : State) (v : Byte) : (s.setF v).params = s.params := rfl

@[simp] theorem spend_a (s : State) (n : Nat) : (s.spend n).a = s.a := rfl
@[simp] theorem spend_f (s : State) (n : Nat) : (s.spend n).f = s.f := rfl
@[simp] theorem spend_b (s : State) (n : Nat) : (s.spend n).b = s.b := rfl
@[simp] theorem spend_c (s : State) (n : Nat) : (s.spend n).c = s.c := rfl
@[simp] theorem spend_d (s : State) (n : Nat) : (s.spend n).d = s.d := rfl
@[simp] theorem spend_e (s : State) (n : Nat) : (s.spend n).e = s.e := rfl
@[simp] theorem spend_h (s : State) (n : Nat) : (s.spend n).h = s.h := rfl
@[simp] theorem spend_l (s : State) (n : Nat) : (s.spend n).l = s.l := rfl
@[simp] theorem spend_sp (s : State) (n : Nat) : (s.spend n).sp = s.sp := rfl
@[simp] theorem spend_pc (s : State) (n : Nat) : (s.spend n).pc = s.pc := rfl
@[simp] theorem spend_ime (s : State) (n : Nat) : (s.spend n).ime = s.ime := rfl
@[simp] theorem spend_eiPending (s : State) (n : Nat) : (s.spend n).eiPending = s.eiPending := rfl
@[simp] theorem spend_mode (s : State) (n : Nat) : (s.spend n).mode = s.mode := rfl
@[simp] theorem spend_cycles (s : State) (n : Nat) : (s.spend n).cycles = s.cycles + n := rfl
@[simp] theorem spend_returned (s : State) (n : Nat) : (s.spend n).returned = s.returned := rfl
@[simp] theorem spend_sysCounter (s : State) (n : Nat) : (s.spend n).sysCounter = s.sysCounter := rfl
@[simp] theorem spend_countdown (s : State) (n : Nat) : (s.spend n).countdown = s.countdown := rfl
@[simp] theorem spend_mem (s : State) (n : Nat) : (s.spend n).mem = s.mem := rfl
@[simp] theorem spend_cart (s : State) (n : Nat) : (s.spend n).cart = s.cart := rfl
@[simp] theorem spend_joy (s : State) (n : Nat) : (s.spend n).joy = s.joy := rfl
@[simp] theorem spend_periph (s : State) (n : Nat) : (s.spend n).periph = s.periph := rfl
@[simp] theorem spend_params (s : State) (n : Nat) : (s.spend n).params = s.params := rfl

@[simp] theorem jump_a (s : State) (w : Word) : (s.jump w).a = s.a := rfl
@[simp] theorem jump_f (s : State) (w : Word) : (s.jump w).f = s.f := rfl
@[simp] theorem jump_b (s : State) (w : Word) : (s.jump w).b = s.b := rfl
@[simp] theorem jump_c (s : State) (w : Word) : (s.jump w).c = s.c := rfl
@[simp] theorem jump_d (s : State) (w : Word) : (s.jump w).d = s.d := rfl
@[simp] theorem jump_e (s : State) (w : Word) : (s.jump w).e = s.e := rfl
@[simp] theorem jump_h (s : State) (w : Word) : (s.jump w).h = s.h := rfl
@[simp] theorem jump_l (s : State) (w : Word) : (s.jump w).l = s.l := rfl
@[simp] theorem jump_sp (s : State) (w : Word) : (s.jump w).sp = s.sp := rfl
@[simp] theorem jump_pc (s : State) (w : Word) : (s.jump w).pc = w := rfl
@[simp] theorem jump_ime (s : State) (w : Word) : (s.jump w).ime = s.ime := rfl
@[simp] theorem jump_eiPending (s : State) (w : Word) : (s.jump w).eiPending = s.eiPending := rfl
@[simp] theorem jump_mode (s : State) (w : Word) : (s.jump w).mode = s.mode := rfl
@[simp] theorem jump_cycles (s : State) (w : Word) : (s.jump w).cycles = s.cycles := rfl
@[simp] theorem jump_returned (s : State) (w : Word) : (s.jump w).returned = s.returned := rfl
@[simp] theorem jump_sysCounter (s : State) (w : Word) : (s.jump w).sysCounter = s.sysCounter := rfl
@[simp] theorem jump_countdown (s : State) (w : Word) : (s.jump w).countdown = s.countdown := rfl
@[simp] theorem jump_mem (s : State) (w : Word) : (s.jump w).mem = s.mem := rfl
@[simp] theorem jump_cart (s : State) (w : Word) : (s.jump w).cart = s.cart := rfl
@[simp] theorem jump_joy (s : State) (w : Word) : (s.jump w).joy = s.joy := rfl
@[simp] theorem jump_periph (s : State) (w : Word) : (s.jump w).periph = s.periph := rfl
@[simp] theorem jump_params (s : State) (w : Word) : (s.jump w).params = s.params := rfl

@[simp] theorem setHL_a (s : State) (w : Word) : (s.setHL w).a = s.a := rfl
@[simp] theorem setHL_f (s : State) (w : Word) : (s.setHL w).f = s.f := rfl
@[simp] theorem setHL_b (s : State) (w : Word) : (s.setHL w).b = s.b := rfl
@[simp] theorem setHL_c (s : State) (w : Word) : (s.setHL w).c = s.c := rfl
@[simp] theorem setHL_d (s : State) (w : Word) : (s.setHL w).d = s.d := rfl
@[simp] theorem setHL_e (s : State) (w : Word) : (s.setHL w).e = s.e := rfl
@[simp] theorem setHL_h (s : State) (w : Word) : (s.setHL w).h = Word.hi w := rfl
@[simp] theorem setHL_l (s : State) (w : Word) : (s.setHL w).l = Word.lo w := rfl
@[simp] theorem setHL_sp (s : State) (w : Word) : (s.setHL w).sp = s.sp := rfl
@[simp] theorem setHL_pc (s : State) (w : Word) : (s.setHL w).pc = s.pc := rfl
@[simp] theorem setHL_ime (s : State) (w : Word) : (s.setHL w).ime = s.ime := rfl
@[simp] theorem setHL_eiPending (s : State) (w : Word) : (s.setHL w).eiPending = s.eiPending := rfl
@[simp] theorem setHL_mode (s : State) (w : Word) : (s.setHL w).mode = s.mode := rfl
@[simp] theorem setHL_cycles (s : State) (w : Word) : (s.setHL w).cycles = s.cycles := rfl
@[simp] theorem setHL_returned (s : State) (w : Word) : (s.setHL w).returned = s.returned := rfl
@[simp] theorem setHL_sysCounter (s : State) (w : Word) : (s.setHL w).sysCounter = s.sysCounter := rfl
@[simp] theorem setHL_countdown (s : State) (w : Word) : (s.setHL w).countdown = s.countdown := rfl
@[simp] theorem setHL_mem (s : State) (w : Word) : (s.setHL w).mem = s.mem := rfl
@[simp] theorem setHL_cart (s : State) (w : Word) : (s.setHL w).cart = s.cart := rfl
@[simp] theorem setHL_joy (s : State) (w : Word) : (s.setHL w).joy = s.joy := rfl
@[simp] theorem setHL_periph (s : State) (w : Word) : (s.setHL w).periph = s.periph := rfl
@[simp] theorem setHL_params (s : State) (w : Word) : (s.setHL w).params = s.params := rfl

@[simp] theorem pop16_a (s : State) : (s.pop16).a = s.a := rfl
@[simp] theorem pop16_f (s : State) : (s.pop16).f = s.f := rfl
@[simp] theorem pop16_b (s : State) : (s.pop16).b = s.b := rfl
@[simp] theorem pop16_c (s : State) : (s.pop16).c = s.c := rfl
@[simp] theorem pop16_d (s : State) : (s.pop16).d = s.d := rfl
@[simp] theorem pop16_e (s : State) : (s.pop16).e = s.e := rfl
@[simp] theorem pop16_h (s : State) : (s.pop16).h = s.h := rfl
@[simp] theorem pop16_l (s : State) : (s.pop16).l = s.l := rfl
@[simp] theorem pop16_sp (s : State) : (s.pop16).sp = s.sp + 2 := rfl
@[simp] theorem pop16_pc (s : State) : (s.pop16).pc = s.pc := rfl
@[simp] theorem pop16_ime (s : State) : (s.pop16).ime = s.ime := rfl
@[simp] theorem pop16_eiPending (s : State) : (s.pop16).eiPending = s.eiPending := rfl
@[simp] theorem pop16_mode (s : State) : (s.pop16).mode = s.mode := rfl
@[simp] theorem pop16_cycles (s : State) : (s.pop16).cycles = s.cycles := rfl
@[simp] theorem pop16_returned (s : State) : (s.pop16).returned = s.returned := rfl
@[simp] theorem pop16_sysCounter (s : State) : (s.pop16).sysCounter = s.sysCounter := rfl
@[simp] theorem pop16_countdown (s : State) : (s.pop16).countdown = s.countdown := rfl
@[simp] theorem pop16_mem (s : State) : (s.pop16).mem = s.mem := rfl
@[simp] theorem pop16_cart (s : State) : (s.pop16).cart = s.cart := rfl
@[simp] theorem pop16_joy (s : State) : (s.pop16).joy = s.joy := rfl
@[simp] theorem pop16_periph (s : State) : (s.pop16).periph = s.periph := rfl
@[simp] theorem pop16_params (s : State) : (s.pop16).params = s.params := rfl

@[simp] theorem setCell_a (s : State) (k : Nat) (v : Byte) : (s.setCell k v).a = s.a := rfl
@[simp] theorem setCell_f (s : State) (k : Nat) (v : Byte) : (s.setCell k v).f = s.f := rfl
@[simp] theorem setCell_b (s : State) (k : Nat) (v : Byte) : (s.setCell k v).b = s.b := rfl
@[simp] theorem setCell_c (s : State) (k : Nat) (v : Byte) : (s.setCell k v).c = s.c := rfl
@[simp] theorem setCell_d (s : State) (k : Nat) (v : Byte) : (s.setCell k v).d = s.d := rfl
@[simp] theorem setCell_e (s : State) (k : Nat) (v : Byte) : (s.setCell k v).e = s.e := rfl
@[simp] theorem setCell_h (s : State) (k : Nat) (v : Byte) : (s.setCell k v).h = s.h := rfl
@[simp] theorem setCell_l (s : State) (k : Nat) (v : Byte) : (s.setCell k v).l = s.l := rfl
@[simp] theorem setCell_sp (s : State) (k : Nat) (v : Byte) : (s.setCell k v).sp = s.sp := rfl
@[simp] theorem setCell_pc (s : State) (k : Nat) (v : Byte) : (s.setCell k v).pc = s.pc := rfl
@[simp] theorem setCell_ime (s : State) (k : Nat) (v : Byte) : (s.setCell k v).ime = s.ime := rfl
@[simp] theorem setCell_eiPending (s : State) (k : Nat) (v : Byte) : (s.setCell k v).eiPending = s.eiPending := rfl
@[simp] theorem setCell_mode (s : State) (k : Nat) (v : Byte) : (s.setCell k v).mode = s.mode := rfl
@[simp] theorem setCell_cycles (s : State) (k : Nat) (v : Byte) : (s.setCell k v).cycles = s.cycles := rfl
@[simp] theorem setCell_returned (s : State) (k : Nat) (v : Byte) : (s.setCell k v).returned = s.returned := rfl
@[simp] theorem setCell_sysCounter (s : State) (k : Nat) (v : Byte) : (s.setCell k v).sysCounter = s.sysCounter := rfl
@[simp] theorem setCell_countdown (s : State) (k : Nat) (v : Byte) : (s.setCell k v).countdown = s.countdown := rfl
@[simp] theorem setCell_mem (s : State) (k : Nat) (v : Byte) : (s.setCell k v).mem = Memory.write s.mem k v := rfl
@[simp] theorem setCell_cart (s : State) (k : Nat) (v : Byte) : (s.setCell k v).cart = s.cart := rfl
@[simp] theorem setCell_joy (s : State) (k : Nat) (v : Byte) : (s.setCell k v).joy = s.joy := rfl
@[simp] theorem setCell_periph (s : State) (k : Nat) (v : Byte) : (s.setCell k v).periph = s.periph := rfl
@[simp] theorem setCell_params (s : State) (k : Nat) (v : Byte) : (s.setCell k v).params = s.params := rfl

@[simp] theorem setR8_f (s : State) (r : Reg8) (v : Byte) : (s.setR8 r v).f = s.f := by cases r <;> rfl
@[simp] theorem setR8_sp (s : State) (r : Reg8) (v : Byte) : (s.setR8 r v).sp = s.sp := by cases r <;> rfl
@[simp] theorem setR8_pc (s : State) (r : Reg8) (v : Byte) : (s.setR8 r v).pc = s.pc := by cases r <;> rfl
@[simp] theorem setR8_ime (s : State) (r : Reg8) (v : Byte) : (s.setR8 r v).ime = s.ime := by cases r <;> rfl
@[simp] theorem setR8_eiPending (s : State) (r : Reg8) (v : Byte) : (s.setR8 r v).eiPending = s.eiPending := by cases r <;> rfl
@[simp] theorem setR8_mode (s : State) (r : Reg8) (v : Byte) : (s.setR8 r v).mode = s.mode := by cases r <;> rfl
@[simp] theorem setR8_cycles (s : State) (r : Reg8) (v : Byte) : (s.setR8 r v).cycles = s.cycles := by cases r <;> rfl
@[simp] theorem setR8_returned (s : State) (r : Reg8) (v : Byte) : (s.setR8 r v).returned = s.returned := by cases r <;> rfl
@[simp] theorem setR8_sysCounter (s : State) (r : Reg8) (v : Byte) : (s.setR8 r v).sysCounter = s.sysCounter := by cases r <;> rfl
@[simp] theorem setR8_countdown (s : State) (r : Reg8) (v : Byte) : (s.setR8 r v).countdown = s.countdown := by cases r <;> rfl
@[simp] theorem setR8_mem (s : State) (r : Reg8) (v : Byte) : (s.setR8 r v).mem = s.mem := by cases r <;> rfl
@[simp] theorem setR8_cart (s : State) (r : Reg8) (v : Byte) : (s.setR8 r v).cart = s.cart := by cases r <;> rfl
@[simp] theorem setR8_joy (s : State) (r : Reg8) (v : Byte) : (s.setR8 r v).joy = s.joy := by cases r <;> rfl
@[simp] theorem setR8_periph (s : State) (r : Reg8) (v : Byte) : (s.setR8 r v).periph = s.periph := by cases r <;> rfl
@[simp] theorem setR8_params (s : State) (r : Reg8) (v : Byte) : (s.setR8 r v).params = s.params := by cases r <;> rfl

@[simp] theorem setR16_a (s : State) (p : Reg16) (w : Word) : (s.setR16 p w).a = s.a := by cases p <;> rfl
@[simp] theorem setR16_f (s : State) (p : Reg16) (w : Word) : (s.setR16 p w).f = s.f := by cases p <;> rfl
@[simp] theorem setR16_pc (s : State) (p : Reg16) (w : Word) : (s.setR16 p w).pc = s.pc := by cases p <;> rfl
@[simp] theorem setR16_ime (s : State) (p : Reg16) (w : Word) : (s.setR16 p w).ime = s.ime := by cases p <;> rfl
@[simp] theorem setR16_eiPending (s : State) (p : Reg16) (w : Word) : (s.setR16 p w).eiPending = s.eiPending := by cases p <;> rfl
@[simp] theorem setR16_mode (s : State) (p : Reg16) (w : Word) : (s.setR16 p w).mode = s.mode := by cases p <;> rfl
@[simp] theorem setR16_cycles (s : State) (p : Reg16) (w : Word) : (s.setR16 p w).cycles = s.cycles := by cases p <;> rfl
@[simp] theorem setR16_returned (s : State) (p : Reg16) (w : Word) : (s.setR16 p w).returned = s.returned := by cases p <;> rfl
@[simp] theorem setR16_sysCounter (s : State) (p : Reg16) (w : Word) : (s.setR16 p w).sysCounter = s.sysCounter := by cases p <;> rfl
@[simp] theorem setR16_countdown (s : State) (p : Reg16) (w : Word) : (s.setR16 p w).countdown = s.countdown := by cases p <;> rfl
@[simp] theorem setR16_mem (s : State) (p : Reg16) (w : Word) : (s.setR16 p w).mem = s.mem := by cases p <;> rfl
@[simp] theorem setR16_cart (s : State) (p : Reg16) (w : Word) : (s.setR16 p w).cart = s.cart := by cases p <;> rfl
@[simp] theorem setR16_joy (s : State) (p : Reg16) (w : Word) : (s.setR16 p w).joy = s.joy := by cases p <;> rfl
@[simp] theorem setR16_periph (s : State) (p : Reg16) (w : Word) : (s.setR16 p w).periph = s.periph := by cases p <;> rfl
@[simp] theorem setR16_params (s : State) (p : Reg16) (w : Word) : (s.setR16 p w).params = s.params := by cases p <;> rfl

@[simp] theorem setRstk_sp (s : State) (p : RegStk) (w : Word) : (s.setRstk p w).sp = s.sp := by cases p <;> rfl
@[simp] theorem setRstk_pc (s : State) (p : RegStk) (w : Word) : (s.setRstk p w).pc = s.pc := by cases p <;> rfl
@[simp] theorem setRstk_ime (s : State) (p : RegStk) (w : Word) : (s.setRstk p w).ime = s.ime := by cases p <;> rfl
@[simp] theorem setRstk_eiPending (s : State) (p : RegStk) (w : Word) : (s.setRstk p w).eiPending = s.eiPending := by cases p <;> rfl
@[simp] theorem setRstk_mode (s : State) (p : RegStk) (w : Word) : (s.setRstk p w).mode = s.mode := by cases p <;> rfl
@[simp] theorem setRstk_cycles (s : State) (p : RegStk) (w : Word) : (s.setRstk p w).cycles = s.cycles := by cases p <;> rfl
@[simp] theorem setRstk_returned (s : State) (p : RegStk) (w : Word) : (s.setRstk p w).returned = s.returned := by cases p <;> rfl
@[simp] theorem setRstk_sysCounter (s : State) (p : RegStk) (w : Word) : (s.setRstk p w).sysCounter = s.sysCounter := by cases p <;> rfl
@[simp] theorem setRstk_countdown (s : State) (p : RegStk) (w : Word) : (s.setRstk p w).countdown = s.countdown := by cases p <;> rfl
@[simp] theorem setRstk_mem (s : State) (p : RegStk) (w : Word) : (s.setRstk p w).mem = s.mem := by cases p <;> rfl
@[simp] theorem setRstk_cart (s : State) (p : RegStk) (w : Word) : (s.setRstk p w).cart = s.cart := by cases p <;> rfl
@[simp] theorem setRstk_joy (s : State) (p : RegStk) (w : Word) : (s.setRstk p w).joy = s.joy := by cases p <;> rfl
@[simp] theorem setRstk_periph (s : State) (p : RegStk) (w : Word) : (s.setRstk p w).periph = s.periph := by cases p <;> rfl
@[simp] theorem setRstk_params (s : State) (p : RegStk) (w : Word) : (s.setRstk p w).params = s.params := by cases p <;> rfl

@[simp] theorem setHL_hl (s : State) (w : Word) : (s.setHL w).hl = w := ofBytes_hi_lo w

/-- A register file is read back where it was written, and nowhere else. -/
theorem r8_setR8 (s : State) (r r' : Reg8) (v : Byte) : (s.setR8 r v).r8 r' = if r' = r then v else s.r8 r' := by
  cases r <;> cases r' <;> rfl

@[simp] theorem r16_setR16 (s : State) (p : Reg16) (w : Word) : (s.setR16 p w).r16 p = w := by
  cases p <;> simp [State.setR16, State.r16, State.bc, State.de]

/-- A popped pair holds the word; AF keeps bits 7-4 of its low byte. -/
theorem rstk_setRstk (s : State) (p : RegStk) (w : Word) :
    (s.setRstk p w).rstk p = if p = .af then Word.ofBytes (Word.hi w) (Word.lo w &&& 0xF0) else w := by
  cases p <;> simp [State.setRstk, State.rstk, State.bc, State.de, State.af]

/-- The low nibble of F is 0 after every write of F. -/
@[simp] theorem setF_low (s : State) (v : Byte) : (s.setF v).f &&& 0x0F = 0 := by
  simp [BitVec.and_assoc]

/-- A flag byte has a zero low nibble, so that writing it to F stores it whole. -/
@[simp] theorem flagByte_mask (z n h c : Bool) : flagByte z n h c &&& 0xF0 = flagByte z n h c := by
  cases z <;> cases n <;> cases h <;> cases c <;> rfl

@[simp] theorem flagZ_flagByte (z n h c : Bool) : flagZ (flagByte z n h c) = z := by
  cases z <;> cases n <;> cases h <;> cases c <;> rfl
@[simp] theorem flagN_flagByte (z n h c : Bool) : flagN (flagByte z n h c) = n := by
  cases z <;> cases n <;> cases h <;> cases c <;> rfl
@[simp] theorem flagH_flagByte (z n h c : Bool) : flagH (flagByte z n h c) = h := by
  cases z <;> cases n <;> cases h <;> cases c <;> rfl
@[simp] theorem flagC_flagByte (z n h c : Bool) : flagC (flagByte z n h c) = c := by
  cases z <;> cases n <;> cases h <;> cases c <;> rfl

end Sys2Proof.Machine
end

