-- ==== Sys2Proof/Laws/Bus.lean ====
section
/-! SUPPORT. What a bus write can do, said once: it changes memory, the cartridge and the timer's counters, and no register. -/

namespace Sys2Proof.Machine

@[simp] theorem receive_rom (c : Cart) (w : CartWrite) : (c.receive w).rom = c.rom := by
  unfold Cart.receive; split <;> rfl

@[simp] theorem receive_kind (c : Cart) (w : CartWrite) : (c.receive w).kind = c.kind := by
  unfold Cart.receive; split <;> rfl

/-- A write outside the I/O block changes memory or the cartridge's writes, and nothing else. -/
theorem writeOutsideIO_only (s : State) (a : Word) (v : Byte) :
    ∃ m c, s.writeOutsideIO a v = { s with mem := m, cart := c } ∧ c.rom = s.cart.rom ∧ c.kind = s.cart.kind := by
  unfold State.writeOutsideIO
  split <;> first
    | exact ⟨_, _, rfl, rfl, rfl⟩
    | exact ⟨_, _, rfl, receive_rom _ _, receive_kind _ _⟩

/-- An OAM DMA changes memory or the cartridge's writes, and nothing else. -/
theorem oamDmaFrom_only (s : State) (page : Byte) (i n : Nat) :
    ∃ m c, s.oamDmaFrom page i n = { s with mem := m, cart := c } ∧ c.rom = s.cart.rom ∧ c.kind = s.cart.kind := by
  induction n generalizing s i with
  | zero => exact ⟨_, _, rfl, rfl, rfl⟩
  | succ n ih =>
    obtain ⟨m, c, h, hr, hk⟩ :=
      writeOutsideIO_only s (BitVec.ofNat 16 (0xFE00 + i)) (s.readByte (BitVec.ofNat 16 (page.toNat * 256 + i)))
    obtain ⟨m', c', h', hr', hk'⟩ := ih (s.oamDmaByte page i) (i + 1)
    have e : s.oamDmaByte page i = { s with mem := m, cart := c } := h
    rw [e] at h' hr' hk'
    exact ⟨m', c', by rw [State.oamDmaFrom, e, h'], hr'.trans hr, hk'.trans hk⟩

theorem oamDma_only (s : State) (page : Byte) :
    ∃ m c, s.oamDma page = { s with mem := m, cart := c } ∧ c.rom = s.cart.rom ∧ c.kind = s.cart.kind := by
  unfold State.oamDma
  exact oamDmaFrom_only s page 0 160

/-- A CPU write changes memory, the cartridge's writes, the system counter and the countdown, and nothing else. -/
theorem writeByte_only (s : State) (a : Word) (v : Byte) :
    ∃ m c sc cd, s.writeByte a v = { s with mem := m, cart := c, sysCounter := sc, countdown := cd } ∧
      c.rom = s.cart.rom ∧ c.kind = s.cart.kind := by
  unfold State.writeByte
  split
  · unfold State.ioWrite
    split
    · exact ⟨_, _, _, _, rfl, rfl, rfl⟩
    split
    · exact ⟨_, _, _, _, rfl, rfl, rfl⟩
    split
    · exact ⟨_, _, _, _, rfl, rfl, rfl⟩
    split
    · exact ⟨_, _, _, _, rfl, rfl, rfl⟩
    split
    · obtain ⟨m, c, h, hr, hk⟩ := oamDma_only (s.setCell 0xFF46 v) v
      exact ⟨m, c, _, _, h, hr, hk⟩
    · exact ⟨_, _, _, _, rfl, rfl, rfl⟩
  · obtain ⟨m, c, h, hr, hk⟩ := writeOutsideIO_only s a v
    exact ⟨m, c, _, _, h, hr, hk⟩

/-- A privileged write, likewise. -/
theorem forceWrite_only (s : State) (a : Word) (v : Byte) :
    ∃ m c sc cd, s.forceWrite a v = { s with mem := m, cart := c, sysCounter := sc, countdown := cd } ∧
      c.rom = s.cart.rom ∧ c.kind = s.cart.kind := by
  unfold State.forceWrite
  split
  · exact ⟨_, _, _, _, rfl, rfl, rfl⟩
  · exact writeByte_only s a v

/-- In the I/O block a privileged write replaces the stored byte, and nothing else. -/
theorem forceWrite_io (s : State) (a : Word) (v : Byte) (h : classifyAddress a = .io) :
    s.forceWrite a v = s.setCell a.toNat v := if_pos h

@[simp] theorem writeByte_a (s : State) (a : Word) (v : Byte) : (s.writeByte a v).a = s.a := by
  obtain ⟨_, _, _, _, h, _⟩ := writeByte_only s a v; rw [h]
@[simp] theorem writeByte_f (s : State) (a : Word) (v : Byte) : (s.writeByte a v).f = s.f := by
  obtain ⟨_, _, _, _, h, _⟩ := writeByte_only s a v; rw [h]
@[simp] theorem writeByte_b (s : State) (a : Word) (v : Byte) : (s.writeByte a v).b = s.b := by
  obtain ⟨_, _, _, _, h, _⟩ := writeByte_only s a v; rw [h]
@[simp] theorem writeByte_c (s : State) (a : Word) (v : Byte) : (s.writeByte a v).c = s.c := by
  obtain ⟨_, _, _, _, h, _⟩ := writeByte_only s a v; rw [h]
@[simp] theorem writeByte_d (s : State) (a : Word) (v : Byte) : (s.writeByte a v).d = s.d := by
  obtain ⟨_, _, _, _, h, _⟩ := writeByte_only s a v; rw [h]
@[simp] theorem writeByte_e (s : State) (a : Word) (v : Byte) : (s.writeByte a v).e = s.e := by
  obtain ⟨_, _, _, _, h, _⟩ := writeByte_only s a v; rw [h]
@[simp] theorem writeByte_h (s : State) (a : Word) (v : Byte) : (s.writeByte a v).h = s.h := by
  obtain ⟨_, _, _, _, h, _⟩ := writeByte_only s a v; rw [h]
@[simp] theorem writeByte_l (s : State) (a : Word) (v : Byte) : (s.writeByte a v).l = s.l := by
  obtain ⟨_, _, _, _, h, _⟩ := writeByte_only s a v; rw [h]
@[simp] theorem writeByte_sp (s : State) (a : Word) (v : Byte) : (s.writeByte a v).sp = s.sp := by
  obtain ⟨_, _, _, _, h, _⟩ := writeByte_only s a v; rw [h]
@[simp] theorem writeByte_pc (s : State) (a : Word) (v : Byte) : (s.writeByte a v).pc = s.pc := by
  obtain ⟨_, _, _, _, h, _⟩ := writeByte_only s a v; rw [h]
@[simp] theorem writeByte_ime (s : State) (a : Word) (v : Byte) : (s.writeByte a v).ime = s.ime := by
  obtain ⟨_, _, _, _, h, _⟩ := writeByte_only s a v; rw [h]
@[simp] theorem writeByte_eiPending (s : State) (a : Word) (v : Byte) : (s.writeByte a v).eiPending = s.eiPending := by
  obtain ⟨_, _, _, _, h, _⟩ := writeByte_only s a v; rw [h]
@[simp] theorem writeByte_mode (s : State) (a : Word) (v : Byte) : (s.writeByte a v).mode = s.mode := by
  obtain ⟨_, _, _, _, h, _⟩ := writeByte_only s a v; rw [h]
@[simp] theorem writeByte_cycles (s : State) (a : Word) (v : Byte) : (s.writeByte a v).cycles = s.cycles := by
  obtain ⟨_, _, _, _, h, _⟩ := writeByte_only s a v; rw [h]
@[simp] theorem writeByte_returned (s : State) (a : Word) (v : Byte) : (s.writeByte a v).returned = s.returned := by
  obtain ⟨_, _, _, _, h, _⟩ := writeByte_only s a v; rw [h]
@[simp] theorem writeByte_joy (s : State) (a : Word) (v : Byte) : (s.writeByte a v).joy = s.joy := by
  obtain ⟨_, _, _, _, h, _⟩ := writeByte_only s a v; rw [h]
@[simp] theorem writeByte_periph (s : State) (a : Word) (v : Byte) : (s.writeByte a v).periph = s.periph := by
  obtain ⟨_, _, _, _, h, _⟩ := writeByte_only s a v; rw [h]
@[simp] theorem writeByte_params (s : State) (a : Word) (v : Byte) : (s.writeByte a v).params = s.params := by
  obtain ⟨_, _, _, _, h, _⟩ := writeByte_only s a v; rw [h]

@[simp] theorem forceWrite_a (s : State) (a : Word) (v : Byte) : (s.forceWrite a v).a = s.a := by
  obtain ⟨_, _, _, _, h, _⟩ := forceWrite_only s a v; rw [h]
@[simp] theorem forceWrite_f (s : State) (a : Word) (v : Byte) : (s.forceWrite a v).f = s.f := by
  obtain ⟨_, _, _, _, h, _⟩ := forceWrite_only s a v; rw [h]
@[simp] theorem forceWrite_b (s : State) (a : Word) (v : Byte) : (s.forceWrite a v).b = s.b := by
  obtain ⟨_, _, _, _, h, _⟩ := forceWrite_only s a v; rw [h]
@[simp] theorem forceWrite_c (s : State) (a : Word) (v : Byte) : (s.forceWrite a v).c = s.c := by
  obtain ⟨_, _, _, _, h, _⟩ := forceWrite_only s a v; rw [h]
@[simp] theorem forceWrite_d (s : State) (a : Word) (v : Byte) : (s.forceWrite a v).d = s.d := by
  obtain ⟨_, _, _, _, h, _⟩ := forceWrite_only s a v; rw [h]
@[simp] theorem forceWrite_e (s : State) (a : Word) (v : Byte) : (s.forceWrite a v).e = s.e := by
  obtain ⟨_, _, _, _, h, _⟩ := forceWrite_only s a v; rw [h]
@[simp] theorem forceWrite_h (s : State) (a : Word) (v : Byte) : (s.forceWrite a v).h = s.h := by
  obtain ⟨_, _, _, _, h, _⟩ := forceWrite_only s a v; rw [h]
@[simp] theorem forceWrite_l (s : State) (a : Word) (v : Byte) : (s.forceWrite a v).l = s.l := by
  obtain ⟨_, _, _, _, h, _⟩ := forceWrite_only s a v; rw [h]
@[simp] theorem forceWrite_sp (s : State) (a : Word) (v : Byte) : (s.forceWrite a v).sp = s.sp := by
  obtain ⟨_, _, _, _, h, _⟩ := forceWrite_only s a v; rw [h]
@[simp] theorem forceWrite_pc (s : State) (a : Word) (v : Byte) : (s.forceWrite a v).pc = s.pc := by
  obtain ⟨_, _, _, _, h, _⟩ := forceWrite_only s a v; rw [h]
@[simp] theorem forceWrite_ime (s : State) (a : Word) (v : Byte) : (s.forceWrite a v).ime = s.ime := by
  obtain ⟨_, _, _, _, h, _⟩ := forceWrite_only s a v; rw [h]
@[simp] theorem forceWrite_eiPending (s : State) (a : Word) (v : Byte) : (s.forceWrite a v).eiPending = s.eiPending := by
  obtain ⟨_, _, _, _, h, _⟩ := forceWrite_only s a v; rw [h]
@[simp] theorem forceWrite_mode (s : State) (a : Word) (v : Byte) : (s.forceWrite a v).mode = s.mode := by
  obtain ⟨_, _, _, _, h, _⟩ := forceWrite_only s a v; rw [h]
@[simp] theorem forceWrite_cycles (s : State) (a : Word) (v : Byte) : (s.forceWrite a v).cycles = s.cycles := by
  obtain ⟨_, _, _, _, h, _⟩ := forceWrite_only s a v; rw [h]
@[simp] theorem forceWrite_returned (s : State) (a : Word) (v : Byte) : (s.forceWrite a v).returned = s.returned := by
  obtain ⟨_, _, _, _, h, _⟩ := forceWrite_only s a v; rw [h]
@[simp] theorem forceWrite_joy (s : State) (a : Word) (v : Byte) : (s.forceWrite a v).joy = s.joy := by
  obtain ⟨_, _, _, _, h, _⟩ := forceWrite_only s a v; rw [h]
@[simp] theorem forceWrite_periph (s : State) (a : Word) (v : Byte) : (s.forceWrite a v).periph = s.periph := by
  obtain ⟨_, _, _, _, h, _⟩ := forceWrite_only s a v; rw [h]
@[simp] theorem forceWrite_params (s : State) (a : Word) (v : Byte) : (s.forceWrite a v).params = s.params := by
  obtain ⟨_, _, _, _, h, _⟩ := forceWrite_only s a v; rw [h]

@[simp] theorem writeWord_a (s : State) (a w : Word) : (s.writeWord a w).a = s.a := by simp [State.writeWord]
@[simp] theorem writeWord_f (s : State) (a w : Word) : (s.writeWord a w).f = s.f := by simp [State.writeWord]
@[simp] theorem writeWord_b (s : State) (a w : Word) : (s.writeWord a w).b = s.b := by simp [State.writeWord]
@[simp] theorem writeWord_c (s : State) (a w : Word) : (s.writeWord a w).c = s.c := by simp [State.writeWord]
@[simp] theorem writeWord_d (s : State) (a w : Word) : (s.writeWord a w).d = s.d := by simp [State.writeWord]
@[simp] theorem writeWord_e (s : State) (a w : Word) : (s.writeWord a w).e = s.e := by simp [State.writeWord]
@[simp] theorem writeWord_h (s : State) (a w : Word) : (s.writeWord a w).h = s.h := by simp [State.writeWord]
@[simp] theorem writeWord_l (s : State) (a w : Word) : (s.writeWord a w).l = s.l := by simp [State.writeWord]
@[simp] theorem writeWord_sp (s : State) (a w : Word) : (s.writeWord a w).sp = s.sp := by simp [State.writeWord]
@[simp] theorem writeWord_pc (s : State) (a w : Word) : (s.writeWord a w).pc = s.pc := by simp [State.writeWord]
@[simp] theorem writeWord_ime (s : State) (a w : Word) : (s.writeWord a w).ime = s.ime := by simp [State.writeWord]
@[simp] theorem writeWord_eiPending (s : State) (a w : Word) : (s.writeWord a w).eiPending = s.eiPending := by simp [State.writeWord]
@[simp] theorem writeWord_mode (s : State) (a w : Word) : (s.writeWord a w).mode = s.mode := by simp [State.writeWord]
@[simp] theorem writeWord_cycles (s : State) (a w : Word) : (s.writeWord a w).cycles = s.cycles := by simp [State.writeWord]
@[simp] theorem writeWord_returned (s : State) (a w : Word) : (s.writeWord a w).returned = s.returned := by simp [State.writeWord]
@[simp] theorem writeWord_joy (s : State) (a w : Word) : (s.writeWord a w).joy = s.joy := by simp [State.writeWord]
@[simp] theorem writeWord_periph (s : State) (a w : Word) : (s.writeWord a w).periph = s.periph := by simp [State.writeWord]
@[simp] theorem writeWord_params (s : State) (a w : Word) : (s.writeWord a w).params = s.params := by simp [State.writeWord]

@[simp] theorem push16_a (s : State) (w : Word) : (s.push16 w).a = s.a := by simp [State.push16]
@[simp] theorem push16_f (s : State) (w : Word) : (s.push16 w).f = s.f := by simp [State.push16]
@[simp] theorem push16_b (s : State) (w : Word) : (s.push16 w).b = s.b := by simp [State.push16]
@[simp] theorem push16_c (s : State) (w : Word) : (s.push16 w).c = s.c := by simp [State.push16]
@[simp] theorem push16_d (s : State) (w : Word) : (s.push16 w).d = s.d := by simp [State.push16]
@[simp] theorem push16_e (s : State) (w : Word) : (s.push16 w).e = s.e := by simp [State.push16]
@[simp] theorem push16_h (s : State) (w : Word) : (s.push16 w).h = s.h := by simp [State.push16]
@[simp] theorem push16_l (s : State) (w : Word) : (s.push16 w).l = s.l := by simp [State.push16]
@[simp] theorem push16_sp (s : State) (w : Word) : (s.push16 w).sp = s.sp - 2 := by simp [State.push16]
@[simp] theorem push16_pc (s : State) (w : Word) : (s.push16 w).pc = s.pc := by simp [State.push16]
@[simp] theorem push16_ime (s : State) (w : Word) : (s.push16 w).ime = s.ime := by simp [State.push16]
@[simp] theorem push16_eiPending (s : State) (w : Word) : (s.push16 w).eiPending = s.eiPending := by simp [State.push16]
@[simp] theorem push16_mode (s : State) (w : Word) : (s.push16 w).mode = s.mode := by simp [State.push16]
@[simp] theorem push16_cycles (s : State) (w : Word) : (s.push16 w).cycles = s.cycles := by simp [State.push16]
@[simp] theorem push16_returned (s : State) (w : Word) : (s.push16 w).returned = s.returned := by simp [State.push16]
@[simp] theorem push16_joy (s : State) (w : Word) : (s.push16 w).joy = s.joy := by simp [State.push16]
@[simp] theorem push16_periph (s : State) (w : Word) : (s.push16 w).periph = s.periph := by simp [State.push16]
@[simp] theorem push16_params (s : State) (w : Word) : (s.push16 w).params = s.params := by simp [State.push16]

/-- No CPU write changes the cartridge's ROM bytes (20_memory.md R91) or its kind. -/
@[simp] theorem writeByte_rom (s : State) (a : Word) (v : Byte) : (s.writeByte a v).cart.rom = s.cart.rom := by
  obtain ⟨_, _, _, _, h, hr, _⟩ := writeByte_only s a v; rw [h]; exact hr

@[simp] theorem writeByte_kind (s : State) (a : Word) (v : Byte) : (s.writeByte a v).cart.kind = s.cart.kind := by
  obtain ⟨_, _, _, _, h, _, hk⟩ := writeByte_only s a v; rw [h]; exact hk

@[simp] theorem push16_rom (s : State) (w : Word) : (s.push16 w).cart.rom = s.cart.rom := by simp [State.push16]

@[simp] theorem push16_kind (s : State) (w : Word) : (s.push16 w).cart.kind = s.cart.kind := by simp [State.push16]

/-- Every region of plain memory stores under the key that `ramKey` names. -/
theorem writeByte_ram (s : State) (a : Word) (v : Byte) (k : Nat) (h : ramKey a = some k) :
    s.writeByte a v = s.setCell k v := by
  have hio : classifyAddress a ≠ .io := by intro hc; simp [ramKey, hc] at h
  rw [State.writeByte, if_neg hio]
  unfold ramKey at h
  unfold State.writeOutsideIO
  cases hc : classifyAddress a <;> simp only [hc, reduceCtorEq, Option.some.injEq] at h ⊢ <;> rw [h]

/-- Every region of plain memory reads the byte that `ramKey` names. -/
theorem readByte_ram (s : State) (a : Word) (k : Nat) (h : ramKey a = some k) : s.readByte a = s.cell k := by
  unfold ramKey at h
  unfold State.readByte
  cases hc : classifyAddress a <;> simp only [hc, reduceCtorEq, Option.some.injEq] at h ⊢ <;> rw [h]

end Sys2Proof.Machine
end

