-- ==== Sys2Proof/Laws/Inv.lean ====
section
/-! SUPPORT. The invariant under the operations of the bus, the timer and the peripherals, so that a proof over instructions only
looks at what an instruction changes beside them. Every memory operation keeps memory's canonical form. -/

namespace Sys2Proof.Machine

/-- The invariant looks at memory, the cartridge, F, the system counter and the countdown alone. -/
theorem Inv.congr {s t : State} (h : Inv s) (hm : t.mem = s.mem) (hc : t.cart = s.cart) (hf : t.f &&& 0x0F = 0)
    (hs : t.sysCounter = s.sysCounter) (hd : t.countdown = s.countdown) : Inv t where
  mem_wf := hm ▸ h.mem_wf
  mem_owned := hm ▸ h.mem_owned
  cart_valid := hc ▸ h.cart_valid
  flags_low := hf
  div_eq := by rw [hs, State.div, cell_congr hm]; exact h.div_eq
  countdown_pos := hd ▸ h.countdown_pos
  countdown_le := by rw [hd, State.tac, cell_congr hm]; exact h.countdown_le

/-- Replacing a byte that is neither DIV nor TAC keeps the invariant. -/
theorem Inv.setCell {s : State} (h : Inv s) {k : Nat} (v : Byte) (hk : busOwned k) (h4 : k ≠ 0xFF04) (h7 : k ≠ 0xFF07) :
    Inv (s.setCell k v) where
  mem_wf := Memory.wf_write k v h.mem_wf
  mem_owned := fun cell hc => (Memory.mem_write hc).elim (fun e => e ▸ hk) (h.mem_owned cell)
  cart_valid := h.cart_valid
  flags_low := h.flags_low
  div_eq := by rw [State.div, cell_setCell, if_neg (Ne.symm h4)]; exact h.div_eq
  countdown_pos := h.countdown_pos
  countdown_le := by rw [State.tac, cell_setCell, if_neg (Ne.symm h7)]; exact h.countdown_le

/-- The lowest and the highest address of a region (20_memory.md R71). -/
def regionBounds : Region → Nat × Nat
  | .rom0 => (0x0000, 0x3FFF) | .romx => (0x4000, 0x7FFF) | .vram => (0x8000, 0x9FFF) | .eram => (0xA000, 0xBFFF)
  | .wram0 => (0xC000, 0xCFFF) | .wramx => (0xD000, 0xDFFF) | .echo => (0xE000, 0xFDFF) | .oam => (0xFE00, 0xFE9F)
  | .unused => (0xFEA0, 0xFEFF) | .io => (0xFF00, 0xFF7F) | .hram => (0xFF80, 0xFFFE) | .ie => (0xFFFF, 0xFFFF)

/-- An address lies within its region. -/
theorem classify_bounds {a : Word} {r : Region} (h : classifyAddress a = r) :
    (regionBounds r).1 ≤ a.toNat ∧ a.toNat ≤ (regionBounds r).2 := by
  subst h
  have hlt := a.isLt
  unfold classifyAddress
  generalize a.toNat = n at hlt
  by_cases h1 : n = 0xFFFF; · rw [if_pos h1]; simp only [regionBounds]; omega
  rw [if_neg h1]
  by_cases h2 : 0xFF80 ≤ n; · rw [if_pos h2]; simp only [regionBounds]; omega
  rw [if_neg h2]
  by_cases h3 : 0xFF00 ≤ n; · rw [if_pos h3]; simp only [regionBounds]; omega
  rw [if_neg h3]
  by_cases h4 : 0xFEA0 ≤ n; · rw [if_pos h4]; simp only [regionBounds]; omega
  rw [if_neg h4]
  by_cases h5 : 0xFE00 ≤ n; · rw [if_pos h5]; simp only [regionBounds]; omega
  rw [if_neg h5]
  by_cases h6 : 0xE000 ≤ n; · rw [if_pos h6]; simp only [regionBounds]; omega
  rw [if_neg h6]
  by_cases h7 : 0xD000 ≤ n; · rw [if_pos h7]; simp only [regionBounds]; omega
  rw [if_neg h7]
  by_cases h8 : 0xC000 ≤ n; · rw [if_pos h8]; simp only [regionBounds]; omega
  rw [if_neg h8]
  by_cases h9 : 0xA000 ≤ n; · rw [if_pos h9]; simp only [regionBounds]; omega
  rw [if_neg h9]
  by_cases h10 : 0x8000 ≤ n; · rw [if_pos h10]; simp only [regionBounds]; omega
  rw [if_neg h10]
  by_cases h11 : 0x4000 ≤ n; · rw [if_pos h11]; simp only [regionBounds]; omega
  rw [if_neg h11]; simp only [regionBounds]; omega

/-- Where a byte of plain memory is kept. -/
theorem ramKey_owned {a : Word} {k : Nat} (h : ramKey a = some k) : busOwned k ∧ (k < 0xFF00 ∨ 0xFF80 ≤ k) := by
  unfold ramKey at h
  have hb := classify_bounds (a := a) rfl
  revert h hb
  generalize a.toNat = n
  cases classifyAddress a <;> simp only [regionBounds, Option.some.injEq, reduceCtorEq, false_implies] <;>
    intro e hb <;> simp only [busOwned] <;> omega

theorem receive_valid {c : Cart} (w : CartWrite) (h : c.valid) : (c.receive w).valid := by
  unfold Cart.receive
  cases hk : c.kind
  · exact h
  · exact ⟨h.1, fun e => by simp_all⟩

theorem writeOutsideIO_inv {s : State} (h : Inv s) (a : Word) (v : Byte) : Inv (s.writeOutsideIO a v) := by
  have hram : ∀ k, ramKey a = some k → Inv (s.setCell k v) := fun k hk => by
    have := ramKey_owned hk
    exact h.setCell v this.1 (by omega) (by omega)
  have hcart : ∀ w, Inv { s with cart := s.cart.receive w } := fun w =>
    { h with cart_valid := receive_valid w h.cart_valid }
  unfold State.writeOutsideIO
  cases hc : classifyAddress a <;> simp only
  case io => exact h
  case unused => exact h
  case eram => exact hcart _
  case romx => exact hcart _
  case rom0 => exact hcart _
  all_goals exact hram _ (by simp [ramKey, hc])

theorem oamDmaFrom_inv {s : State} (h : Inv s) (page : Byte) (i n : Nat) : Inv (s.oamDmaFrom page i n) := by
  induction n generalizing s i with
  | zero => exact h
  | succ n ih => exact ih (writeOutsideIO_inv h _ _) (i + 1)

theorem oamDma_inv {s : State} (h : Inv s) (page : Byte) : Inv (s.oamDma page) := by
  unfold State.oamDma
  exact oamDmaFrom_inv h page 0 160

theorem period_pos (r : BitVec 2) : 1 ≤ period r := by
  unfold period; split_ifs <;> omega

theorem io_bounds {a : Word} (h : classifyAddress a = .io) : 0xFF00 ≤ a.toNat ∧ a.toNat ≤ 0xFF7F := classify_bounds h

theorem busOwned_io {k : Nat} (h : 0xFF00 ≤ k ∧ k ≤ 0xFF7F) : busOwned k := .inr (.inr (.inr ⟨h.1, by omega⟩))

/-- The system counter and DIV, changed together, keep the invariant. -/
theorem Inv.setCounter {s : State} (h : Inv s) (w : Word) : Inv (({ s with sysCounter := w } : State).setCell 0xFF04 (Word.hi w)) where
  mem_wf := Memory.wf_write _ _ h.mem_wf
  mem_owned := fun cell hc => (Memory.mem_write hc).elim (fun e => e ▸ busOwned_io (by omega)) (h.mem_owned cell)
  cart_valid := h.cart_valid
  flags_low := h.flags_low
  div_eq := (cell_setCell _ _ _ _).trans (if_pos rfl)
  countdown_pos := h.countdown_pos
  countdown_le := by rw [State.tac, cell_setCell, if_neg (by omega)]; exact h.countdown_le

/-- TAC and the countdown, reloaded together, keep the invariant. -/
theorem Inv.setTac {s : State} (h : Inv s) (v : Byte) :
    Inv (({ s with countdown := period (tacRate v) } : State).setCell 0xFF07 v) where
  mem_wf := Memory.wf_write _ _ h.mem_wf
  mem_owned := fun cell hc => (Memory.mem_write hc).elim (fun e => e ▸ busOwned_io (by omega)) (h.mem_owned cell)
  cart_valid := h.cart_valid
  flags_low := h.flags_low
  div_eq := ((cell_setCell _ _ _ _).trans (if_neg (by omega))).trans h.div_eq
  countdown_pos := by have := period_pos (tacRate v); show (1 : Int) ≤ (period (tacRate v) : Nat); exact_mod_cast this
  countdown_le := by rw [State.tac, cell_setCell, if_pos rfl]; exact le_refl _

theorem ioWrite_inv {s : State} (h : Inv s) (a : Word) (v : Byte) (ha : classifyAddress a = .io) : Inv (s.ioWrite a v) := by
  have hb := io_bounds ha
  unfold State.ioWrite
  split
  · exact h.setCell _ (busOwned_io (by omega)) (by omega) (by omega)
  split
  · exact h.setCounter 0
  split
  · exact h.setTac v
  split
  · exact h.setCell _ (busOwned_io (by omega)) (by omega) (by omega)
  split
  · exact oamDma_inv (h.setCell _ (busOwned_io (by omega)) (by omega) (by omega)) v
  · exact h.setCell _ (busOwned_io hb) (by omega) (by omega)

/-- A CPU write keeps the invariant, at any address. -/
theorem writeByte_inv {s : State} (h : Inv s) (a : Word) (v : Byte) : Inv (s.writeByte a v) := by
  unfold State.writeByte
  split
  · exact ioWrite_inv h a v ‹_›
  · exact writeOutsideIO_inv h a v

theorem writeWord_inv {s : State} (h : Inv s) (a w : Word) : Inv (s.writeWord a w) :=
  writeByte_inv (writeByte_inv h _ _) _ _

theorem push16_inv {s : State} (h : Inv s) (w : Word) : Inv (s.push16 w) :=
  writeByte_inv (s := { State.writeByte { s with sp := s.sp - 1 } (s.sp - 1) (Word.hi w) with sp := s.sp - 2 })
    ((writeByte_inv (s := { s with sp := s.sp - 1 }) (h.congr rfl rfl h.flags_low rfl rfl) _ _).congr rfl rfl
      (by simpa using h.flags_low) rfl rfl) _ _

theorem requestInterrupt_inv {s : State} (h : Inv s) (k : Nat) : Inv (s.requestInterrupt k) :=
  h.setCell _ (busOwned_io (by omega)) (by omega) (by omega)

/-- Taking an interrupt keeps the invariant. -/
theorem service_inv {s : State} (h : Inv s) (k : InterruptSource) : Inv (s.service k) :=
  (push16_inv (h.setCell (k := 0xFF0F) (s.ifReg &&& ~~~(1#8 <<< sourceBit k)) (busOwned_io (by omega)) (by omega) (by omega)) s.pc).congr
    rfl rfl (by simpa [State.service] using h.flags_low) rfl rfl

/-- The loop of the countdown ends between 1 and the period (60_exceptions.md R623). -/
theorem expiries_spec (cd : Int) (p : Nat) (hp : 1 ≤ p) (hle : cd ≤ p) :
    1 ≤ cd + expiries cd p * p ∧ cd + expiries cd p * p ≤ p := by
  unfold expiries
  split
  · simp; omega
  · have h1 := Nat.div_add_mod (-cd).toNat p
    have h2 := Nat.mod_lt (-cd).toNat (show 0 < p by omega)
    have e : ((-cd).toNat : Int) = -cd := by omega
    generalize (-cd).toNat / p = q at h1 ⊢
    generalize (-cd).toNat % p = r at h1 h2
    have h3 : (p : Int) * q + r = -cd := by rw [← e]; exact_mod_cast h1
    have h4 : (r : Int) < p := by exact_mod_cast h2
    push_cast
    constructor <;> nlinarith

@[simp] theorem tickTima_eq (s : State) : s.tickTima =
    if s.tima.toNat + 1 > 0xFF then (s.setCell 0xFF05 s.tma).setCell 0xFF0F (s.ifReg ||| 4#8)
    else s.setCell 0xFF05 (s.tima + 1) := by
  unfold State.tickTima
  rw [forceWrite_io _ _ _ rfl, forceWrite_io _ _ _ rfl]
  split
  · show (s.setCell 0xFF05 s.tma).setCell 0xFF0F ((s.setCell 0xFF05 s.tma).ifReg ||| (1#8 <<< 2)) = _
    rw [show (s.setCell 0xFF05 s.tma).ifReg = s.ifReg from (cell_setCell s _ _ _).trans (if_neg (by decide))]
    rfl
  · rfl

theorem tickTima_inv {s : State} (h : Inv s) : Inv s.tickTima := by
  rw [tickTima_eq]
  split
  · exact (h.setCell _ (busOwned_io (by omega)) (by omega) (by omega)).setCell _ (busOwned_io (by omega)) (by omega) (by omega)
  · exact h.setCell _ (busOwned_io (by omega)) (by omega) (by omega)

theorem tickTimaTimes_inv {s : State} (h : Inv s) (n : Nat) : Inv (s.tickTimaTimes n) := by
  induction n generalizing s with
  | zero => exact h
  | succ n ih => exact ih (tickTima_inv h)

theorem countDown_inv {s : State} (h : Inv s) (c : Nat) : Inv (s.countDown c) := by
  have hs := expiries_spec (s.countdown - c) (period (tacRate s.tac)) (period_pos _)
    (by have := h.countdown_le; omega)
  have h' : Inv { s with countdown := s.countdown - c + expiries (s.countdown - c) (period (tacRate s.tac)) * period (tacRate s.tac) } :=
    ⟨h.mem_wf, h.mem_owned, h.cart_valid, h.flags_low, h.div_eq, hs.1, hs.2⟩
  exact tickTimaTimes_inv h' _

/-- The timer's advance keeps the invariant. -/
theorem timerAdvance_inv {s : State} (h : Inv s) (c : Nat) : Inv (s.timerAdvance c) := by
  have h2 := h.setCounter (s.sysCounter + BitVec.ofNat 16 c)
  unfold State.timerAdvance
  simp only
  rw [forceWrite_io _ _ _ rfl]
  split
  · exact countDown_inv h2 c
  · exact h2

theorem periphWrite_inv {s : State} (h : Inv s) (cell : Host.Cell) : Inv (s.periphWrite cell) := by
  unfold State.periphWrite
  split
  · rename_i ho
    simp only [periphOwned, Bool.or_eq_true, decide_eq_true_eq] at ho
    have hn : (BitVec.ofNat 16 cell.1).toNat = cell.1 := by
      rw [BitVec.toNat_ofNat]; exact Nat.mod_eq_of_lt (by omega)
    have hio : classifyAddress (BitVec.ofNat 16 cell.1) = .io := by
      rw [classifyAddress, hn, if_neg (by omega), if_neg (by omega), if_pos (by omega)]
    rw [forceWrite_io _ _ _ hio, hn]
    exact h.setCell _ (busOwned_io (by omega)) (by omega) (by omega)
  · exact h

theorem periphRequest_inv {s : State} (h : Inv s) (requests : Byte) (k : Nat) : Inv (s.periphRequest requests k) := by
  unfold State.periphRequest
  split
  · exact requestInterrupt_inv h k
  · exact h

theorem foldl_inv {α : Type} (f : State → α → State) (hf : ∀ s x, Inv s → Inv (f s x)) (xs : List α) {s : State}
    (h : Inv s) : Inv (xs.foldl f s) := by
  induction xs generalizing s with
  | nil => exact h
  | cons x xs ih => exact ih (hf s x h)

/-- The peripherals' advance keeps the invariant. -/
theorem peripheralsAdvance_inv {s : State} (h : Inv s) : Inv s.peripheralsAdvance := by
  unfold State.peripheralsAdvance
  split
  · exact h
  · rename_i m rest _
    have h0 : Inv { s with periph := rest } := h.congr rfl rfl h.flags_low rfl rfl
    have h1 := foldl_inv State.periphWrite (fun s x hs => periphWrite_inv hs x) m.ioWrites h0
    unfold State.applyMove
    exact foldl_inv _ (fun s k hs => periphRequest_inv hs m.requests k) _ (h1.congr rfl rfl h1.flags_low rfl rfl)

theorem devicesAdvance_inv {s : State} (h : Inv s) (c : Nat) : Inv (s.devicesAdvance c) :=
  peripheralsAdvance_inv (timerAdvance_inv h c)

end Sys2Proof.Machine
end

