-- ==== Sys2Proof/Laws/Frame.lean ====
section
/-! SUPPORT. What a CPU write leaves alone: every read that `mayChange` does not name, and the stack pointer's part of a push. -/

namespace Sys2Proof.Machine

/-- A read looks at memory, the cartridge, the system counter, the joypad and the parameters alone. -/
theorem readByte_congr {s t : State} (hm : t.mem = s.mem) (hc : t.cart = s.cart) (hs : t.sysCounter = s.sysCounter)
    (hj : t.joy = s.joy) (hp : t.params = s.params) (a : Word) : t.readByte a = s.readByte a := by
  have hcell := cell_congr hm
  unfold State.readByte State.ioRead State.p1
  simp only [hcell, hc, hs, hj, hp]

/-- The high page: 0xFF in the high byte. -/
theorem highPage_eq (n : Byte) : highPage n = 0xFF#8 ++ n := by
  apply BitVec.eq_of_toNat_eq
  have hn := n.isLt
  show ((0xFF00 : Word) + n.zeroExtend 16).toNat = (0xFF#8 ++ n : BitVec (8 + 8)).toNat
  rw [BitVec.toNat_append, BitVec.toNat_add, BitVec.toNat_setWidth, Nat.shiftLeft_eq]
  have : (0xFF#8).toNat * 2 ^ 8 ||| n.toNat = 0xFF * 2 ^ 8 + n.toNat := by
    rw [show (0xFF#8).toNat * 2 ^ 8 = 2 ^ 8 * 0xFF by rfl]
    exact (Nat.two_pow_add_eq_or_of_lt hn 0xFF).symm
  rw [this]
  have h0 : (65280 : Word).toNat = 65280 := rfl
  rw [h0]
  omega

theorem writeOutsideIO_setSp (s : State) (w a : Word) (v : Byte) :
    ({ s with sp := w } : State).writeOutsideIO a v = { s.writeOutsideIO a v with sp := w } := by
  unfold State.writeOutsideIO
  generalize classifyAddress a = r
  generalize a.toNat - 0x2000 = k
  cases r <;> rfl

theorem oamDmaFrom_setSp (s : State) (w : Word) (page : Byte) (i n : Nat) :
    ({ s with sp := w } : State).oamDmaFrom page i n = { s.oamDmaFrom page i n with sp := w } := by
  induction n generalizing s i with
  | zero => rfl
  | succ n ih =>
    rw [State.oamDmaFrom, State.oamDmaFrom, ← ih]
    congr 1
    unfold State.oamDmaByte
    rw [readByte_congr (s := s) (t := { s with sp := w }) rfl rfl rfl rfl rfl]
    exact writeOutsideIO_setSp s w _ _

/-- A CPU write does not look at SP, and leaves it. -/
theorem writeByte_setSp (s : State) (w a : Word) (v : Byte) :
    ({ s with sp := w } : State).writeByte a v = { s.writeByte a v with sp := w } := by
  unfold State.writeByte
  split
  · unfold State.ioWrite
    split; · rfl
    split; · rfl
    split; · rfl
    split; · rfl
    split
    · exact oamDmaFrom_setSp (s.setCell 0xFF46 v) w v 0 160
    · rfl
  · exact writeOutsideIO_setSp s w a v

/-- A push as two writes and a new SP. -/
theorem push16_eq (s : State) (w : Word) : s.push16 w =
    { (s.writeByte (s.sp - 1) (Word.hi w)).writeByte (s.sp - 2) (Word.lo w) with sp := s.sp - 2 } := by
  have e1 := writeByte_setSp s (s.sp - 1) (s.sp - 1) (Word.hi w)
  have e2 := writeByte_setSp (State.writeByte { s with sp := s.sp - 1 } (s.sp - 1) (Word.hi w)) (s.sp - 2) (s.sp - 2) (Word.lo w)
  have e3 := writeByte_setSp (s.writeByte (s.sp - 1) (Word.hi w)) (s.sp - 1) (s.sp - 2) (Word.lo w)
  refine e2.trans ?_
  rw [e1, e3]

/-- OAM DMA changes OAM alone: every cell outside it stays. -/
theorem oamDmaFrom_cell (s : State) (page : Byte) (i n k : Nat) (hn : i + n ≤ 160) (hk : k < 0xFE00 + i ∨ 0xFE00 + i + n ≤ k) :
    (s.oamDmaFrom page i n).cell k = s.cell k := by
  induction n generalizing s i with
  | zero => rfl
  | succ n ih =>
    rw [State.oamDmaFrom, ih _ _ (by omega) (by omega)]
    have ha : (BitVec.ofNat 16 (0xFE00 + i)).toNat = 0xFE00 + i := by
      rw [BitVec.toNat_ofNat]; exact Nat.mod_eq_of_lt (by omega)
    unfold State.oamDmaByte State.writeOutsideIO
    rw [show classifyAddress (BitVec.ofNat 16 (0xFE00 + i)) = .oam by
      rw [classifyAddress, ha, if_neg (by omega), if_neg (by omega), if_neg (by omega), if_neg (by omega), if_pos (by omega)]]
    dsimp only
    rw [cell_setCell, if_neg (by omega)]

/-- OAM DMA changes memory alone. -/
theorem oamDmaFrom_mem (s : State) (page : Byte) (i n : Nat) (hn : i + n ≤ 160) :
    s.oamDmaFrom page i n = { s with mem := (s.oamDmaFrom page i n).mem } := by
  induction n generalizing s i with
  | zero => rfl
  | succ n ih =>
    have ha : (BitVec.ofNat 16 (0xFE00 + i)).toNat = 0xFE00 + i := by
      rw [BitVec.toNat_ofNat]; exact Nat.mod_eq_of_lt (by omega)
    have h : s.oamDmaByte page i = { s with mem := (s.oamDmaByte page i).mem } := by
      unfold State.oamDmaByte State.writeOutsideIO
      rw [show classifyAddress (BitVec.ofNat 16 (0xFE00 + i)) = .oam by
        rw [classifyAddress, ha, if_neg (by omega), if_neg (by omega), if_neg (by omega), if_neg (by omega), if_pos (by omega)]]
      rfl
    rw [State.oamDmaFrom, ih _ _ (by omega)]
    generalize (State.oamDmaFrom (s.oamDmaByte page i) page (i + 1) n).mem = m
    rw [h]

/-- A read whose address is no I/O register is the cell that `ramKey` names, the gap, or the cartridge's answer; so it stays where those do. -/
theorem readByte_of_cells {s t : State} (x : Word) (hr : ∀ k, ramKey x = some k → t.cell k = s.cell k)
    (hio : classifyAddress x = .io → t.readByte x = s.readByte x)
    (hc : cartAddress x → t.cart = s.cart) (hp : t.params = s.params) : t.readByte x = s.readByte x := by
  by_cases h : classifyAddress x = .io
  · exact hio h
  · cases hk : ramKey x with
    | some k => rw [readByte_ram t x k hk, readByte_ram s x k hk, hr k hk]
    | none =>
      unfold ramKey at hk
      unfold State.readByte
      cases hx : classifyAddress x <;> simp only [hx, reduceCtorEq, not_true] at hk h ⊢
      · rw [hc (.inl hx)]
      · rw [hc (.inr (.inl hx))]
      · rw [hc (.inr (.inr hx))]
      · rw [hp]

/-- Replacing the cell of one I/O register changes the read of that register alone. -/
theorem readByte_setCell_io (s : State) (k : Nat) (v : Byte) (x : Word) (hk : 0xFF00 ≤ k ∧ k ≤ 0xFF7F) (hx : x.toNat ≠ k) :
    (s.setCell k v).readByte x = s.readByte x := by
  apply readByte_of_cells
  · intro j hj
    have := (ramKey_owned hj).2
    rw [cell_setCell, if_neg (by omega)]
  · intro h
    unfold State.readByte
    rw [h]
    show (s.setCell k v).ioRead x = s.ioRead x
    unfold State.ioRead State.p1
    by_cases h0 : x.toNat = 0xFF00
    · rw [if_pos h0, if_pos h0, cell_setCell, if_neg (by omega)]; rfl
    · rw [if_neg h0, if_neg h0, cell_setCell, if_neg hx]; rfl
  · intro _; rfl
  · rfl

/-- A CPU write changes no read but those that `mayChange` names. -/
theorem writeByte_frame (s : State) (a x : Word) (v : Byte) (h : ¬ mayChange s a x) :
    (s.writeByte a v).readByte x = s.readByte x := by
  cases hk : ramKey a with
  | some k =>
    have hne : ramKey x ≠ some k := by
      intro hx; apply h
      have hr := hx.trans hk.symm
      unfold ramKey at hk
      unfold mayChange
      revert hk hr
      cases classifyAddress a <;> simp
    rw [writeByte_ram s a v k hk]
    apply readByte_of_cells
    · intro j hj; rw [cell_setCell, if_neg]; rintro rfl; exact hne hj
    · intro hio
      have hb := classify_bounds hio
      have ho := (ramKey_owned hk).2
      simp only [regionBounds] at hb
      unfold State.readByte
      rw [hio]
      show (s.setCell k v).ioRead x = s.ioRead x
      have h0 : (s.setCell k v).cell 0xFF00 = s.cell 0xFF00 := by rw [cell_setCell, if_neg (by omega)]
      have h1 : (s.setCell k v).cell x.toNat = s.cell x.toNat := by rw [cell_setCell, if_neg (by omega)]
      unfold State.ioRead State.p1
      rw [h0, h1]; rfl
    · intro _; rfl
    · rfl
  | none =>
    by_cases hio : classifyAddress a = .io
    · have hb := io_bounds hio
      have hxa : x ≠ a := by rintro rfl; apply h; unfold mayChange; rw [hio]; exact .inl rfl
      have hxn : x.toNat ≠ a.toNat := fun e => hxa (BitVec.eq_of_toNat_eq e)
      rw [State.writeByte, if_pos hio]
      unfold State.ioWrite
      split
      · exact readByte_setCell_io s _ _ x (by omega) (by omega)
      split
      · rename_i h4
        have e : ({ s.setCell 0xFF04 0x00 with sysCounter := 0 } : State).readByte x = (s.setCell 0xFF04 0x00).readByte x := by
          unfold State.readByte State.ioRead
          cases classifyAddress x <;> try rfl
          dsimp only
          rw [if_neg (show ¬ x.toNat = 0xFF04 by omega), if_neg (show ¬ x.toNat = 0xFF04 by omega)]
          rfl
        rw [e]
        exact readByte_setCell_io s _ _ x (by omega) (by omega)
      split
      · refine (readByte_congr (s := s.setCell 0xFF07 v) rfl rfl rfl rfl rfl x).trans ?_
        exact readByte_setCell_io s _ _ x (by omega) (by omega)
      split
      · exact readByte_setCell_io s _ _ x (by omega) (by omega)
      split
      · rename_i h46
        have hoam : classifyAddress x ≠ .oam := by
          intro ho; apply h; unfold mayChange; rw [hio]; exact .inr ⟨h46, ho⟩
        rw [← readByte_setCell_io s 0xFF46 v x (by omega) (by omega)]
        have hm := oamDmaFrom_mem (s.setCell 0xFF46 v) v 0 160 (by omega)
        have hcell : ∀ k, (k < 0xFE00 ∨ 0xFEA0 ≤ k) → ((s.setCell 0xFF46 v).oamDma v).cell k = (s.setCell 0xFF46 v).cell k :=
          fun k hk => oamDmaFrom_cell _ v 0 160 k (by omega) (by omega)
        rw [State.oamDma] at hcell ⊢
        generalize State.oamDmaFrom (s.setCell 0xFF46 v) v 0 160 = t at hm hcell ⊢
        generalize s.setCell 0xFF46 v = u at hm hcell ⊢
        apply readByte_of_cells
        · intro k hk
          apply hcell
          unfold ramKey at hk
          have hbx := classify_bounds (a := x) rfl
          revert hk hbx hoam
          generalize x.toNat = n
          cases classifyAddress x <;> simp only [regionBounds, Option.some.injEq, reduceCtorEq, ne_eq, not_true, false_implies,
            not_false_eq_true, true_implies] <;> omega
        · intro hx
          have hbx := io_bounds hx
          unfold State.readByte
          rw [hx]
          show t.ioRead x = u.ioRead x
          unfold State.ioRead State.p1
          rw [hcell _ (by omega), hcell _ (by omega), hm]
        · intro _; rw [hm]
        · rw [hm]
      · exact readByte_setCell_io s _ _ x hb (by omega)
    · rw [State.writeByte, if_neg hio]
      unfold State.writeOutsideIO
      unfold ramKey at hk
      unfold mayChange at h
      have key : ∀ c : Cart, (s.cart.kind = .banked ∧ cartAddress x → False) → (s.cart.kind = .romOnly → c = s.cart) →
          ({ s with cart := c } : State).readByte x = s.readByte x := by
        intro c hn hro
        apply readByte_of_cells
        · intro k _; rfl
        · intro hx; unfold State.readByte; rw [hx]; rfl
        · intro hcx
          cases hkd : s.cart.kind
          · exact hro hkd
          · exact (hn ⟨hkd, hcx⟩).elim
        · rfl
      cases ha : classifyAddress a <;> simp only [ha, reduceCtorEq, not_true] at hk hio h ⊢
      · exact key _ h (fun hr => by unfold Cart.handleBankingWrite Cart.receive; rw [hr])
      · exact key _ h (fun hr => by unfold Cart.handleBankingWrite Cart.receive; rw [hr])
      · exact key _ h (fun hr => by unfold Cart.writeRAM Cart.receive; rw [hr])

/-- `mayChange` depends on the kind of the cartridge alone, which no write changes. -/
theorem mayChange_writeByte (s : State) (b : Word) (v : Byte) (a x : Word) :
    mayChange (s.writeByte b v) a x ↔ mayChange s a x := by
  unfold mayChange
  rw [writeByte_kind]

/-- Two writes change no read but those that `mayChange` names for one or the other. -/
theorem writeByte_frame2 (s : State) (a b x : Word) (v w : Byte) (ha : ¬ mayChange s a x) (hb : ¬ mayChange s b x) :
    ((s.writeByte a v).writeByte b w).readByte x = s.readByte x := by
  rw [writeByte_frame _ b x w (by rwa [mayChange_writeByte]), writeByte_frame s a x v ha]

end Sys2Proof.Machine
end

