-- ==== Sys2Proof/Laws/Step.lean ====
section
/-! SUPPORT. What the phases of a step around the instruction can do: the devices change memory, the timer's counters, the joypad
and the list of moves; the interrupt check changes the mode, or takes an interrupt. -/

namespace Sys2Proof.Machine

theorem tickTimaTimes_only (s : State) (n : Nat) : ∃ m, s.tickTimaTimes n = { s with mem := m } := by
  induction n generalizing s with
  | zero => exact ⟨_, rfl⟩
  | succ n ih =>
    obtain ⟨m, h⟩ : ∃ m, s.tickTima = { s with mem := m } := by
      rw [tickTima_eq]; split <;> exact ⟨_, rfl⟩
    obtain ⟨m', h'⟩ := ih s.tickTima
    exact ⟨m', by rw [State.tickTimaTimes, h', h]⟩

/-- The timer's advance changes memory and its two counters alone. -/
theorem timerAdvance_only (s : State) (c : Nat) :
    ∃ m sc cd, s.timerAdvance c = { s with mem := m, sysCounter := sc, countdown := cd } := by
  unfold State.timerAdvance
  simp only
  rw [forceWrite_io _ _ _ rfl]
  split
  · unfold State.countDown
    obtain ⟨m, h⟩ := tickTimaTimes_only _ _
    exact ⟨_, _, _, h⟩
  · exact ⟨_, _, _, rfl⟩

theorem periphWrite_only (s : State) (cell : Host.Cell) : ∃ m, s.periphWrite cell = { s with mem := m } := by
  unfold State.periphWrite
  split
  · rename_i ho
    simp only [periphOwned, Bool.or_eq_true, decide_eq_true_eq] at ho
    have hn : (BitVec.ofNat 16 cell.1).toNat = cell.1 := by
      rw [BitVec.toNat_ofNat]; exact Nat.mod_eq_of_lt (by omega)
    have hio : classifyAddress (BitVec.ofNat 16 cell.1) = .io := by
      rw [classifyAddress, hn, if_neg (by omega), if_neg (by omega), if_pos (by omega)]
    rw [forceWrite_io _ _ _ hio]
    exact ⟨_, rfl⟩
  · exact ⟨_, rfl⟩

theorem periphWrites_only (cells : List Host.Cell) (s : State) :
    ∃ m, cells.foldl State.periphWrite s = { s with mem := m } := by
  induction cells generalizing s with
  | nil => exact ⟨_, rfl⟩
  | cons x xs ih =>
    obtain ⟨m, h⟩ := periphWrite_only s x
    obtain ⟨m', h'⟩ := ih (s.periphWrite x)
    exact ⟨m', by rw [List.foldl_cons, h', h]⟩

theorem periphRequest_only (s : State) (requests : Byte) (k : Nat) : ∃ m, s.periphRequest requests k = { s with mem := m } := by
  unfold State.periphRequest
  split <;> exact ⟨_, rfl⟩

/-- A move of the peripherals changes memory and the joypad alone. -/
theorem applyMove_only (s : State) (mv : PeriphMove) : ∃ m j, s.applyMove mv = { s with mem := m, joy := j } := by
  unfold State.applyMove
  obtain ⟨m1, h1⟩ := periphWrites_only mv.ioWrites s
  rw [h1]
  simp only [List.foldl]
  obtain ⟨m2, h2⟩ := periphRequest_only { s with mem := m1, joy := mv.joypad.getD s.joy } mv.requests 0
  rw [h2]
  obtain ⟨m3, h3⟩ := periphRequest_only { s with mem := m2, joy := mv.joypad.getD s.joy } mv.requests 1
  rw [h3]
  obtain ⟨m4, h4⟩ := periphRequest_only { s with mem := m3, joy := mv.joypad.getD s.joy } mv.requests 3
  rw [h4]
  obtain ⟨m5, h5⟩ := periphRequest_only { s with mem := m4, joy := mv.joypad.getD s.joy } mv.requests 4
  rw [h5]
  exact ⟨_, _, rfl⟩

/-- The peripherals' advance changes memory, the joypad and the list of moves alone. -/
theorem peripheralsAdvance_only (s : State) :
    ∃ m j, s.peripheralsAdvance = { s with mem := m, joy := j, periph := s.periph.tail } := by
  unfold State.peripheralsAdvance
  split
  · rename_i h
    exact ⟨s.mem, s.joy, by rw [h]; cases s; simp only at h; subst h; rfl⟩
  · rename_i mv rest h
    obtain ⟨m, j, h'⟩ := applyMove_only { s with periph := rest } mv
    exact ⟨m, j, by rw [h', h]; rfl⟩

/-- The devices' advance changes memory, the timer's counters, the joypad and the list of moves alone. -/
theorem devicesAdvance_only (s : State) (c : Nat) :
    ∃ m sc cd j, s.devicesAdvance c =
      { s with mem := m, sysCounter := sc, countdown := cd, joy := j, periph := s.periph.tail } := by
  obtain ⟨m, sc, cd, h⟩ := timerAdvance_only s c
  obtain ⟨m', j, h'⟩ := peripheralsAdvance_only (s.timerAdvance c)
  refine ⟨m', sc, cd, j, ?_⟩
  rw [State.devicesAdvance, h', h]

/-- Taking an interrupt: the registers but SP, and the state that no bus write changes, stay. -/
theorem service_only (s : State) (k : InterruptSource) :
    ∃ m c sc cd, s.service k =
      { s with mem := m, cart := c, sysCounter := sc, countdown := cd, sp := s.sp - 2, pc := vector k, ime := false } ∧
      c.rom = s.cart.rom ∧ c.kind = s.cart.kind := by
  have e := push16_eq (s.setCell 0xFF0F (s.ifReg &&& ~~~(1#8 <<< sourceBit k))) s.pc
  obtain ⟨m1, c1, sc1, cd1, h1, hr1, hk1⟩ :=
    writeByte_only (s.setCell 0xFF0F (s.ifReg &&& ~~~(1#8 <<< sourceBit k))) (s.sp - 1) (Word.hi s.pc)
  rw [show (s.setCell 0xFF0F (s.ifReg &&& ~~~(1#8 <<< sourceBit k))).sp = s.sp from rfl] at e
  rw [h1] at e
  obtain ⟨m2, c2, sc2, cd2, h2, hr2, hk2⟩ :=
    writeByte_only { s.setCell 0xFF0F (s.ifReg &&& ~~~(1#8 <<< sourceBit k)) with
      mem := m1, cart := c1, sysCounter := sc1, countdown := cd1 } (s.sp - 2) (Word.lo s.pc)
  rw [h2] at e
  refine ⟨m2, c2, sc2, cd2, ?_, hr2.trans hr1, hk2.trans hk1⟩
  unfold State.service
  simp only
  rw [e]
  rfl

/-- What an interrupt check can do: nothing but set the mode to running, with no cycles, or take an interrupt, with 20. -/
theorem interruptCheck_cases (s : State) :
    (∃ md, s.interruptCheck = ({ s with mode := md }, 0) ∧ (md = s.mode ∨ md = .running)) ∨
    (∃ md k, s.interruptCheck = (({ s with mode := md } : State).service k, 20) ∧ s.mode ≠ .stopped ∧ s.ime = true ∧
      (md = s.mode ∨ md = .running) ∧ selectPendingInterrupt s.ifReg s.ieReg = some k) := by
  unfold State.interruptCheck
  split
  · left
    split
    · exact ⟨_, rfl, .inr rfl⟩
    · exact ⟨_, rfl, .inl rfl⟩
  · rename_i hst
    have hw : ∃ md, (if s.mode = .halted ∧ s.pending ≠ 0 then ({ s with mode := .running } : State) else s) = { s with mode := md } ∧
        (md = s.mode ∨ md = .running) := by
      split
      · exact ⟨_, rfl, .inr rfl⟩
      · exact ⟨_, rfl, .inl rfl⟩
    obtain ⟨md, hw, hmd⟩ := hw
    dsimp only
    rw [hw]
    split
    · split
      · rename_i hk; exact .inr ⟨md, _, rfl, hst, ‹_›, hmd, hk⟩
      · exact .inl ⟨md, rfl, hmd⟩
    · exact .inl ⟨md, rfl, hmd⟩

/-- The check reads IF, IE, IME and the mode alone: with nothing pending, or a stopped core, or IME clear, it takes no interrupt. -/
theorem finishStep_eq (s : State) (c : Nat) (t : State) (n : Nat) (h : (s.devicesAdvance c).interruptCheck = (t, n)) :
    s.finishStep c = { (if 0 < n then t.devicesAdvance n else t) with returned := c + n } := by
  unfold State.finishStep
  rw [h]

end Sys2Proof.Machine
end

