-- ==== Sys2Proof/Tests/Slice0.lean ====
section
/-! SUPPORT. The package's own tests. The words come from the encodings of the rules of spec/40 to 46, bit by bit; the expected
results of the step tests are the vectors of spec/95_test_vectors.md, by their numbers. The witnesses show for each statement of
Certificates/Slice0/Obligations.lean that its hypotheses can be met. -/

namespace Sys2Proof.Tests

open Sys2Proof.Machine

/-! ## WellFormed refuses what is no instruction -/

theorem test_wellFormed_refuses_a_defined_opcode : wellFormed (.undefined 0x00) = false := by decide

theorem test_wellFormed_refuses_the_bare_prefix : wellFormed (.cbPrefix 0x7C) = false := by decide

theorem test_wellFormed_accepts_the_eleven : undefinedOpcodes.all (fun op => wellFormed (.undefined op)) = true := by decide

/-! ## Decoding: a word for every constructor -/

/-- Every list of bytes decodes, whole, to the instruction beside it. -/
abbrev decodesTo (l : List (List Byte × Instr)) : Prop :=
  l.map (fun p => decode p.1) = l.map (fun p => .ok (p.2, []))

theorem test_decode_ld_r_r_0 : decodesTo [
    ([0b01000000], .ld_B_B), ([0b01000001], .ld_B_C), ([0b01000010], .ld_B_D), ([0b01000011], .ld_B_E),
    ([0b01000100], .ld_B_H), ([0b01000101], .ld_B_L), ([0b01000110], .ld_B_mHL), ([0b01000111], .ld_B_A),
    ([0b01001000], .ld_C_B), ([0b01001001], .ld_C_C), ([0b01001010], .ld_C_D), ([0b01001011], .ld_C_E),
    ([0b01001100], .ld_C_H), ([0b01001101], .ld_C_L), ([0b01001110], .ld_C_mHL), ([0b01001111], .ld_C_A),
    ([0b01010000], .ld_D_B), ([0b01010001], .ld_D_C), ([0b01010010], .ld_D_D), ([0b01010011], .ld_D_E),
    ([0b01010100], .ld_D_H), ([0b01010101], .ld_D_L), ([0b01010110], .ld_D_mHL), ([0b01010111], .ld_D_A),
    ([0b01011000], .ld_E_B), ([0b01011001], .ld_E_C), ([0b01011010], .ld_E_D), ([0b01011011], .ld_E_E),
    ([0b01011100], .ld_E_H), ([0b01011101], .ld_E_L), ([0b01011110], .ld_E_mHL), ([0b01011111], .ld_E_A)] := by
  rfl

theorem test_decode_ld_r_r_1 : decodesTo [
    ([0b01100000], .ld_H_B), ([0b01100001], .ld_H_C), ([0b01100010], .ld_H_D), ([0b01100011], .ld_H_E),
    ([0b01100100], .ld_H_H), ([0b01100101], .ld_H_L), ([0b01100110], .ld_H_mHL), ([0b01100111], .ld_H_A),
    ([0b01101000], .ld_L_B), ([0b01101001], .ld_L_C), ([0b01101010], .ld_L_D), ([0b01101011], .ld_L_E),
    ([0b01101100], .ld_L_H), ([0b01101101], .ld_L_L), ([0b01101110], .ld_L_mHL), ([0b01101111], .ld_L_A),
    ([0b01110000], .ld_mHL_B), ([0b01110001], .ld_mHL_C), ([0b01110010], .ld_mHL_D), ([0b01110011], .ld_mHL_E),
    ([0b01110100], .ld_mHL_H), ([0b01110101], .ld_mHL_L), ([0b01110111], .ld_mHL_A), ([0b01111000], .ld_A_B),
    ([0b01111001], .ld_A_C), ([0b01111010], .ld_A_D), ([0b01111011], .ld_A_E), ([0b01111100], .ld_A_H),
    ([0b01111101], .ld_A_L), ([0b01111110], .ld_A_mHL), ([0b01111111], .ld_A_A)] := by
  rfl

theorem test_decode_loads_0 : decodesTo [
    ([0b00000110, 0x5A], .ld_B_n 0x5A), ([0b00001110, 0x5A], .ld_C_n 0x5A), ([0b00010110, 0x5A], .ld_D_n 0x5A),
    ([0b00011110, 0x5A], .ld_E_n 0x5A), ([0b00100110, 0x5A], .ld_H_n 0x5A), ([0b00101110, 0x5A], .ld_L_n 0x5A),
    ([0b00110110, 0x5A], .ld_mHL_n 0x5A), ([0b00111110, 0x5A], .ld_A_n 0x5A), ([0b00001010], .ld_A_mBC),
    ([0b00011010], .ld_A_mDE), ([0b00000010], .ld_mBC_A), ([0b00010010], .ld_mDE_A),
    ([0b11111010, 0x34, 0x12], .ld_A_mnn 0x1234), ([0b11101010, 0x34, 0x12], .ld_mnn_A 0x1234), ([0b11110010], .ldh_A_mC),
    ([0b11100010], .ldh_mC_A), ([0b11110000, 0x5A], .ldh_A_mn 0x5A), ([0b11100000, 0x5A], .ldh_mn_A 0x5A),
    ([0b00101010], .ld_A_mHLI), ([0b00111010], .ld_A_mHLD), ([0b00100010], .ld_mHLI_A), ([0b00110010], .ld_mHLD_A),
    ([0b00000001, 0x34, 0x12], .ld_BC_nn 0x1234), ([0b00010001, 0x34, 0x12], .ld_DE_nn 0x1234),
    ([0b00100001, 0x34, 0x12], .ld_HL_nn 0x1234), ([0b00110001, 0x34, 0x12], .ld_SP_nn 0x1234), ([0b11000101], .push_BC),
    ([0b11000001], .pop_BC), ([0b11010101], .push_DE), ([0b11010001], .pop_DE), ([0b11100101], .push_HL),
    ([0b11100001], .pop_HL)] := by
  rfl

theorem test_decode_loads_1 : decodesTo [
    ([0b11110101], .push_AF), ([0b11110001], .pop_AF), ([0b00001000, 0x34, 0x12], .ld_mnn_SP 0x1234),
    ([0b11111001], .ld_SP_HL), ([0b11111000, 0x5A], .ld_HL_SPe 0x5A)] := by
  rfl

theorem test_decode_other_0 : decodesTo [
    ([0b00001001], .add_HL_BC), ([0b00000011], .inc_BC), ([0b00001011], .dec_BC), ([0b00011001], .add_HL_DE),
    ([0b00010011], .inc_DE), ([0b00011011], .dec_DE), ([0b00101001], .add_HL_HL), ([0b00100011], .inc_HL),
    ([0b00101011], .dec_HL), ([0b00111001], .add_HL_SP), ([0b00110011], .inc_SP), ([0b00111011], .dec_SP),
    ([0b11101000, 0x5A], .add_SP_e 0x5A), ([0b11000110, 0x5A], .add_A_n 0x5A), ([0b11001110, 0x5A], .adc_A_n 0x5A),
    ([0b11010110, 0x5A], .sub_n 0x5A), ([0b11011110, 0x5A], .sbc_A_n 0x5A), ([0b11100110, 0x5A], .and_n 0x5A),
    ([0b11101110, 0x5A], .xor_n 0x5A), ([0b11110110, 0x5A], .or_n 0x5A), ([0b11111110, 0x5A], .cp_n 0x5A),
    ([0b00000100], .inc_B), ([0b00000101], .dec_B), ([0b00001100], .inc_C), ([0b00001101], .dec_C), ([0b00010100], .inc_D),
    ([0b00010101], .dec_D), ([0b00011100], .inc_E), ([0b00011101], .dec_E), ([0b00100100], .inc_H), ([0b00100101], .dec_H),
    ([0b00101100], .inc_L)] := by
  rfl

theorem test_decode_other_1 : decodesTo [
    ([0b00101101], .dec_L), ([0b00110100], .inc_mHL), ([0b00110101], .dec_mHL), ([0b00111100], .inc_A),
    ([0b00111101], .dec_A), ([0b00000111], .rlca), ([0b00001111], .rrca), ([0b00010111], .rla), ([0b00011111], .rra),
    ([0b00100111], .daa), ([0b00101111], .cpl), ([0b00110111], .scf), ([0b00111111], .ccf), ([0b00000000], .nop),
    ([0b01110110], .halt), ([0b00010000, 0x5A], .stop 0x5A), ([0b11110011], .di), ([0b11111011], .ei)] := by
  rfl

theorem test_decode_alu_r_0 : decodesTo [
    ([0b10000000], .add_A_B), ([0b10000001], .add_A_C), ([0b10000010], .add_A_D), ([0b10000011], .add_A_E),
    ([0b10000100], .add_A_H), ([0b10000101], .add_A_L), ([0b10000110], .add_A_mHL), ([0b10000111], .add_A_A),
    ([0b10001000], .adc_A_B), ([0b10001001], .adc_A_C), ([0b10001010], .adc_A_D), ([0b10001011], .adc_A_E),
    ([0b10001100], .adc_A_H), ([0b10001101], .adc_A_L), ([0b10001110], .adc_A_mHL), ([0b10001111], .adc_A_A),
    ([0b10010000], .sub_B), ([0b10010001], .sub_C), ([0b10010010], .sub_D), ([0b10010011], .sub_E), ([0b10010100], .sub_H),
    ([0b10010101], .sub_L), ([0b10010110], .sub_mHL), ([0b10010111], .sub_A), ([0b10011000], .sbc_A_B),
    ([0b10011001], .sbc_A_C), ([0b10011010], .sbc_A_D), ([0b10011011], .sbc_A_E), ([0b10011100], .sbc_A_H),
    ([0b10011101], .sbc_A_L), ([0b10011110], .sbc_A_mHL), ([0b10011111], .sbc_A_A)] := by
  rfl

theorem test_decode_alu_r_1 : decodesTo [
    ([0b10100000], .and_B), ([0b10100001], .and_C), ([0b10100010], .and_D), ([0b10100011], .and_E), ([0b10100100], .and_H),
    ([0b10100101], .and_L), ([0b10100110], .and_mHL), ([0b10100111], .and_A), ([0b10101000], .xor_B),
    ([0b10101001], .xor_C), ([0b10101010], .xor_D), ([0b10101011], .xor_E), ([0b10101100], .xor_H), ([0b10101101], .xor_L),
    ([0b10101110], .xor_mHL), ([0b10101111], .xor_A), ([0b10110000], .or_B), ([0b10110001], .or_C), ([0b10110010], .or_D),
    ([0b10110011], .or_E), ([0b10110100], .or_H), ([0b10110101], .or_L), ([0b10110110], .or_mHL), ([0b10110111], .or_A),
    ([0b10111000], .cp_B), ([0b10111001], .cp_C), ([0b10111010], .cp_D), ([0b10111011], .cp_E), ([0b10111100], .cp_H),
    ([0b10111101], .cp_L), ([0b10111110], .cp_mHL), ([0b10111111], .cp_A)] := by
  rfl

theorem test_decode_rotates_0 : decodesTo [
    ([0b11001011, 0b00000000], .rlc_B), ([0b11001011, 0b00000001], .rlc_C), ([0b11001011, 0b00000010], .rlc_D),
    ([0b11001011, 0b00000011], .rlc_E), ([0b11001011, 0b00000100], .rlc_H), ([0b11001011, 0b00000101], .rlc_L),
    ([0b11001011, 0b00000110], .rlc_mHL), ([0b11001011, 0b00000111], .rlc_A), ([0b11001011, 0b00001000], .rrc_B),
    ([0b11001011, 0b00001001], .rrc_C), ([0b11001011, 0b00001010], .rrc_D), ([0b11001011, 0b00001011], .rrc_E),
    ([0b11001011, 0b00001100], .rrc_H), ([0b11001011, 0b00001101], .rrc_L), ([0b11001011, 0b00001110], .rrc_mHL),
    ([0b11001011, 0b00001111], .rrc_A), ([0b11001011, 0b00010000], .rl_B), ([0b11001011, 0b00010001], .rl_C),
    ([0b11001011, 0b00010010], .rl_D), ([0b11001011, 0b00010011], .rl_E), ([0b11001011, 0b00010100], .rl_H),
    ([0b11001011, 0b00010101], .rl_L), ([0b11001011, 0b00010110], .rl_mHL), ([0b11001011, 0b00010111], .rl_A),
    ([0b11001011, 0b00011000], .rr_B), ([0b11001011, 0b00011001], .rr_C), ([0b11001011, 0b00011010], .rr_D),
    ([0b11001011, 0b00011011], .rr_E), ([0b11001011, 0b00011100], .rr_H), ([0b11001011, 0b00011101], .rr_L),
    ([0b11001011, 0b00011110], .rr_mHL), ([0b11001011, 0b00011111], .rr_A)] := by
  rfl

theorem test_decode_rotates_1 : decodesTo [
    ([0b11001011, 0b00100000], .sla_B), ([0b11001011, 0b00100001], .sla_C), ([0b11001011, 0b00100010], .sla_D),
    ([0b11001011, 0b00100011], .sla_E), ([0b11001011, 0b00100100], .sla_H), ([0b11001011, 0b00100101], .sla_L),
    ([0b11001011, 0b00100110], .sla_mHL), ([0b11001011, 0b00100111], .sla_A), ([0b11001011, 0b00101000], .sra_B),
    ([0b11001011, 0b00101001], .sra_C), ([0b11001011, 0b00101010], .sra_D), ([0b11001011, 0b00101011], .sra_E),
    ([0b11001011, 0b00101100], .sra_H), ([0b11001011, 0b00101101], .sra_L), ([0b11001011, 0b00101110], .sra_mHL),
    ([0b11001011, 0b00101111], .sra_A), ([0b11001011, 0b00110000], .swap_B), ([0b11001011, 0b00110001], .swap_C),
    ([0b11001011, 0b00110010], .swap_D), ([0b11001011, 0b00110011], .swap_E), ([0b11001011, 0b00110100], .swap_H),
    ([0b11001011, 0b00110101], .swap_L), ([0b11001011, 0b00110110], .swap_mHL), ([0b11001011, 0b00110111], .swap_A),
    ([0b11001011, 0b00111000], .srl_B), ([0b11001011, 0b00111001], .srl_C), ([0b11001011, 0b00111010], .srl_D),
    ([0b11001011, 0b00111011], .srl_E), ([0b11001011, 0b00111100], .srl_H), ([0b11001011, 0b00111101], .srl_L),
    ([0b11001011, 0b00111110], .srl_mHL), ([0b11001011, 0b00111111], .srl_A)] := by
  rfl

theorem test_decode_bit_0 : decodesTo [
    ([0b11001011, 0b01000000], .bit_0_B), ([0b11001011, 0b01000001], .bit_0_C), ([0b11001011, 0b01000010], .bit_0_D),
    ([0b11001011, 0b01000011], .bit_0_E), ([0b11001011, 0b01000100], .bit_0_H), ([0b11001011, 0b01000101], .bit_0_L),
    ([0b11001011, 0b01000110], .bit_0_mHL), ([0b11001011, 0b01000111], .bit_0_A), ([0b11001011, 0b01001000], .bit_1_B),
    ([0b11001011, 0b01001001], .bit_1_C), ([0b11001011, 0b01001010], .bit_1_D), ([0b11001011, 0b01001011], .bit_1_E),
    ([0b11001011, 0b01001100], .bit_1_H), ([0b11001011, 0b01001101], .bit_1_L), ([0b11001011, 0b01001110], .bit_1_mHL),
    ([0b11001011, 0b01001111], .bit_1_A), ([0b11001011, 0b01010000], .bit_2_B), ([0b11001011, 0b01010001], .bit_2_C),
    ([0b11001011, 0b01010010], .bit_2_D), ([0b11001011, 0b01010011], .bit_2_E), ([0b11001011, 0b01010100], .bit_2_H),
    ([0b11001011, 0b01010101], .bit_2_L), ([0b11001011, 0b01010110], .bit_2_mHL), ([0b11001011, 0b01010111], .bit_2_A),
    ([0b11001011, 0b01011000], .bit_3_B), ([0b11001011, 0b01011001], .bit_3_C), ([0b11001011, 0b01011010], .bit_3_D),
    ([0b11001011, 0b01011011], .bit_3_E), ([0b11001011, 0b01011100], .bit_3_H), ([0b11001011, 0b01011101], .bit_3_L),
    ([0b11001011, 0b01011110], .bit_3_mHL), ([0b11001011, 0b01011111], .bit_3_A)] := by
  rfl

theorem test_decode_bit_1 : decodesTo [
    ([0b11001011, 0b01100000], .bit_4_B), ([0b11001011, 0b01100001], .bit_4_C), ([0b11001011, 0b01100010], .bit_4_D),
    ([0b11001011, 0b01100011], .bit_4_E), ([0b11001011, 0b01100100], .bit_4_H), ([0b11001011, 0b01100101], .bit_4_L),
    ([0b11001011, 0b01100110], .bit_4_mHL), ([0b11001011, 0b01100111], .bit_4_A), ([0b11001011, 0b01101000], .bit_5_B),
    ([0b11001011, 0b01101001], .bit_5_C), ([0b11001011, 0b01101010], .bit_5_D), ([0b11001011, 0b01101011], .bit_5_E),
    ([0b11001011, 0b01101100], .bit_5_H), ([0b11001011, 0b01101101], .bit_5_L), ([0b11001011, 0b01101110], .bit_5_mHL),
    ([0b11001011, 0b01101111], .bit_5_A), ([0b11001011, 0b01110000], .bit_6_B), ([0b11001011, 0b01110001], .bit_6_C),
    ([0b11001011, 0b01110010], .bit_6_D), ([0b11001011, 0b01110011], .bit_6_E), ([0b11001011, 0b01110100], .bit_6_H),
    ([0b11001011, 0b01110101], .bit_6_L), ([0b11001011, 0b01110110], .bit_6_mHL), ([0b11001011, 0b01110111], .bit_6_A),
    ([0b11001011, 0b01111000], .bit_7_B), ([0b11001011, 0b01111001], .bit_7_C), ([0b11001011, 0b01111010], .bit_7_D),
    ([0b11001011, 0b01111011], .bit_7_E), ([0b11001011, 0b01111100], .bit_7_H), ([0b11001011, 0b01111101], .bit_7_L),
    ([0b11001011, 0b01111110], .bit_7_mHL), ([0b11001011, 0b01111111], .bit_7_A)] := by
  rfl

theorem test_decode_res_0 : decodesTo [
    ([0b11001011, 0b10000000], .res_0_B), ([0b11001011, 0b10000001], .res_0_C), ([0b11001011, 0b10000010], .res_0_D),
    ([0b11001011, 0b10000011], .res_0_E), ([0b11001011, 0b10000100], .res_0_H), ([0b11001011, 0b10000101], .res_0_L),
    ([0b11001011, 0b10000110], .res_0_mHL), ([0b11001011, 0b10000111], .res_0_A), ([0b11001011, 0b10001000], .res_1_B),
    ([0b11001011, 0b10001001], .res_1_C), ([0b11001011, 0b10001010], .res_1_D), ([0b11001011, 0b10001011], .res_1_E),
    ([0b11001011, 0b10001100], .res_1_H), ([0b11001011, 0b10001101], .res_1_L), ([0b11001011, 0b10001110], .res_1_mHL),
    ([0b11001011, 0b10001111], .res_1_A), ([0b11001011, 0b10010000], .res_2_B), ([0b11001011, 0b10010001], .res_2_C),
    ([0b11001011, 0b10010010], .res_2_D), ([0b11001011, 0b10010011], .res_2_E), ([0b11001011, 0b10010100], .res_2_H),
    ([0b11001011, 0b10010101], .res_2_L), ([0b11001011, 0b10010110], .res_2_mHL), ([0b11001011, 0b10010111], .res_2_A),
    ([0b11001011, 0b10011000], .res_3_B), ([0b11001011, 0b10011001], .res_3_C), ([0b11001011, 0b10011010], .res_3_D),
    ([0b11001011, 0b10011011], .res_3_E), ([0b11001011, 0b10011100], .res_3_H), ([0b11001011, 0b10011101], .res_3_L),
    ([0b11001011, 0b10011110], .res_3_mHL), ([0b11001011, 0b10011111], .res_3_A)] := by
  rfl

theorem test_decode_res_1 : decodesTo [
    ([0b11001011, 0b10100000], .res_4_B), ([0b11001011, 0b10100001], .res_4_C), ([0b11001011, 0b10100010], .res_4_D),
    ([0b11001011, 0b10100011], .res_4_E), ([0b11001011, 0b10100100], .res_4_H), ([0b11001011, 0b10100101], .res_4_L),
    ([0b11001011, 0b10100110], .res_4_mHL), ([0b11001011, 0b10100111], .res_4_A), ([0b11001011, 0b10101000], .res_5_B),
    ([0b11001011, 0b10101001], .res_5_C), ([0b11001011, 0b10101010], .res_5_D), ([0b11001011, 0b10101011], .res_5_E),
    ([0b11001011, 0b10101100], .res_5_H), ([0b11001011, 0b10101101], .res_5_L), ([0b11001011, 0b10101110], .res_5_mHL),
    ([0b11001011, 0b10101111], .res_5_A), ([0b11001011, 0b10110000], .res_6_B), ([0b11001011, 0b10110001], .res_6_C),
    ([0b11001011, 0b10110010], .res_6_D), ([0b11001011, 0b10110011], .res_6_E), ([0b11001011, 0b10110100], .res_6_H),
    ([0b11001011, 0b10110101], .res_6_L), ([0b11001011, 0b10110110], .res_6_mHL), ([0b11001011, 0b10110111], .res_6_A),
    ([0b11001011, 0b10111000], .res_7_B), ([0b11001011, 0b10111001], .res_7_C), ([0b11001011, 0b10111010], .res_7_D),
    ([0b11001011, 0b10111011], .res_7_E), ([0b11001011, 0b10111100], .res_7_H), ([0b11001011, 0b10111101], .res_7_L),
    ([0b11001011, 0b10111110], .res_7_mHL), ([0b11001011, 0b10111111], .res_7_A)] := by
  rfl

theorem test_decode_set_0 : decodesTo [
    ([0b11001011, 0b11000000], .set_0_B), ([0b11001011, 0b11000001], .set_0_C), ([0b11001011, 0b11000010], .set_0_D),
    ([0b11001011, 0b11000011], .set_0_E), ([0b11001011, 0b11000100], .set_0_H), ([0b11001011, 0b11000101], .set_0_L),
    ([0b11001011, 0b11000110], .set_0_mHL), ([0b11001011, 0b11000111], .set_0_A), ([0b11001011, 0b11001000], .set_1_B),
    ([0b11001011, 0b11001001], .set_1_C), ([0b11001011, 0b11001010], .set_1_D), ([0b11001011, 0b11001011], .set_1_E),
    ([0b11001011, 0b11001100], .set_1_H), ([0b11001011, 0b11001101], .set_1_L), ([0b11001011, 0b11001110], .set_1_mHL),
    ([0b11001011, 0b11001111], .set_1_A), ([0b11001011, 0b11010000], .set_2_B), ([0b11001011, 0b11010001], .set_2_C),
    ([0b11001011, 0b11010010], .set_2_D), ([0b11001011, 0b11010011], .set_2_E), ([0b11001011, 0b11010100], .set_2_H),
    ([0b11001011, 0b11010101], .set_2_L), ([0b11001011, 0b11010110], .set_2_mHL), ([0b11001011, 0b11010111], .set_2_A),
    ([0b11001011, 0b11011000], .set_3_B), ([0b11001011, 0b11011001], .set_3_C), ([0b11001011, 0b11011010], .set_3_D),
    ([0b11001011, 0b11011011], .set_3_E), ([0b11001011, 0b11011100], .set_3_H), ([0b11001011, 0b11011101], .set_3_L),
    ([0b11001011, 0b11011110], .set_3_mHL), ([0b11001011, 0b11011111], .set_3_A)] := by
  rfl

theorem test_decode_set_1 : decodesTo [
    ([0b11001011, 0b11100000], .set_4_B), ([0b11001011, 0b11100001], .set_4_C), ([0b11001011, 0b11100010], .set_4_D),
    ([0b11001011, 0b11100011], .set_4_E), ([0b11001011, 0b11100100], .set_4_H), ([0b11001011, 0b11100101], .set_4_L),
    ([0b11001011, 0b11100110], .set_4_mHL), ([0b11001011, 0b11100111], .set_4_A), ([0b11001011, 0b11101000], .set_5_B),
    ([0b11001011, 0b11101001], .set_5_C), ([0b11001011, 0b11101010], .set_5_D), ([0b11001011, 0b11101011], .set_5_E),
    ([0b11001011, 0b11101100], .set_5_H), ([0b11001011, 0b11101101], .set_5_L), ([0b11001011, 0b11101110], .set_5_mHL),
    ([0b11001011, 0b11101111], .set_5_A), ([0b11001011, 0b11110000], .set_6_B), ([0b11001011, 0b11110001], .set_6_C),
    ([0b11001011, 0b11110010], .set_6_D), ([0b11001011, 0b11110011], .set_6_E), ([0b11001011, 0b11110100], .set_6_H),
    ([0b11001011, 0b11110101], .set_6_L), ([0b11001011, 0b11110110], .set_6_mHL), ([0b11001011, 0b11110111], .set_6_A),
    ([0b11001011, 0b11111000], .set_7_B), ([0b11001011, 0b11111001], .set_7_C), ([0b11001011, 0b11111010], .set_7_D),
    ([0b11001011, 0b11111011], .set_7_E), ([0b11001011, 0b11111100], .set_7_H), ([0b11001011, 0b11111101], .set_7_L),
    ([0b11001011, 0b11111110], .set_7_mHL), ([0b11001011, 0b11111111], .set_7_A)] := by
  rfl

theorem test_decode_control : decodesTo [
    ([0b11000011, 0x34, 0x12], .jp_nn 0x1234), ([0b11101001], .jp_HL), ([0b00011000, 0x5A], .jr_e 0x5A),
    ([0b11001101, 0x34, 0x12], .call_nn 0x1234), ([0b11001001], .ret), ([0b11011001], .reti),
    ([0b11000010, 0x34, 0x12], .jp_NZ_nn 0x1234), ([0b00100000, 0x5A], .jr_NZ_e 0x5A),
    ([0b11000100, 0x34, 0x12], .call_NZ_nn 0x1234), ([0b11000000], .ret_NZ), ([0b11001010, 0x34, 0x12], .jp_Z_nn 0x1234),
    ([0b00101000, 0x5A], .jr_Z_e 0x5A), ([0b11001100, 0x34, 0x12], .call_Z_nn 0x1234), ([0b11001000], .ret_Z),
    ([0b11010010, 0x34, 0x12], .jp_NC_nn 0x1234), ([0b00110000, 0x5A], .jr_NC_e 0x5A),
    ([0b11010100, 0x34, 0x12], .call_NC_nn 0x1234), ([0b11010000], .ret_NC), ([0b11011010, 0x34, 0x12], .jp_C_nn 0x1234),
    ([0b00111000, 0x5A], .jr_C_e 0x5A), ([0b11011100, 0x34, 0x12], .call_C_nn 0x1234), ([0b11011000], .ret_C),
    ([0b11000111], .rst_00H), ([0b11001111], .rst_08H), ([0b11010111], .rst_10H), ([0b11011111], .rst_18H),
    ([0b11100111], .rst_20H), ([0b11101111], .rst_28H), ([0b11110111], .rst_30H), ([0b11111111], .rst_38H)] := by
  rfl

/-- The eleven undefined opcodes (30_encoding.md R140). -/
theorem test_decode_undefined : decodesTo [
    ([0xD3], .undefined 0xD3), ([0xDB], .undefined 0xDB), ([0xDD], .undefined 0xDD), ([0xE3], .undefined 0xE3),
    ([0xE4], .undefined 0xE4), ([0xEB], .undefined 0xEB), ([0xEC], .undefined 0xEC), ([0xED], .undefined 0xED),
    ([0xF4], .undefined 0xF4), ([0xFC], .undefined 0xFC), ([0xFD], .undefined 0xFD)] := by
  rfl

/-- An immediate is little-endian, and what follows the instruction is left (R130, R137). -/
theorem test_decode_leaves_the_rest : decode [0x01, 0x34, 0x12, 0x76] = .ok (.ld_BC_nn 0x1234, [0x76]) := by rfl

theorem test_decode_truncated : decode [0x01, 0x34] = .error (.truncated 0x01) := by rfl

theorem test_table_words :
    decodeTableWord 8 0x41 = some .ld_B_C ∧ decodeTableWord 16 0x5A3E = some (.ld_A_n 0x5A) ∧
    decodeTableWord 24 0x0150C3 = some (.jp_nn 0x0150) ∧ decodeTableWord 16 0xCB7C = some .bit_7_H ∧
    decodeTableWord 8 0xC3 = some (.jp_nn 0) := ⟨rfl, rfl, rfl, rfl, rfl⟩

/-! ## One step -/

/-- A state with its pc at 0x0200 and no flag set. -/
def base : State := { State.reset with pc := 0x0200, f := 0x00 }

/-- Bytes of the bus put in place. -/
def poke (cells : List (Nat × Byte)) (s : State) : State := cells.foldl (fun s c => s.setCell c.1 c.2) s

/-- One step, with these bytes in ROM from 0x0200. -/
def ran (bytes : List Byte) (s : State) : Option State :=
  match step { s with cart := { s.cart with rom := bytes.zipIdx.foldl (fun m p => Memory.write m (0x0200 + p.2) p.1) [] } } with
  | .next t => some t
  | _ => none

theorem test_withFetchWord_runs_the_word :
    (match step (State.reset.withFetchWord 24 0x0150C3) with | .next t => t.pc = 0x0150 ∧ t.returned = 16 | _ => False) ∧
    (match step (State.reset.withFetchWord 16 0xCBC7) with | .next t => t.pc = 0x0102 ∧ t.returned = 8 | _ => False) :=
  ⟨⟨rfl, rfl⟩, ⟨rfl, rfl⟩⟩

theorem test_vector_45_pairs_INC_B : (ran [0x04]
      { base with b := 0xFF, f := 0x00 }).map (fun t => (t.f, t.b, t.pc, t.returned))
    = some (0xA0, 0x00, 0x0201, 4) := by rfl

theorem test_vector_45_pairs_INC_A : (ran [0x3C]
      { base with a := 0xFF, f := 0x10 }).map (fun t => (t.a, t.f, t.pc, t.returned))
    = some (0x00, 0xB0, 0x0201, 4) := by rfl

theorem test_vector_45_pairs_INC_BC : (ran [0x03]
      { base with b := 0xFF, c := 0xFF, f := 0x00 }).map (fun t => (t.b, t.c, t.pc, t.returned))
    = some (0x00, 0x00, 0x0201, 8) := by rfl

theorem test_vector_45_pairs_INC_SP : (ran [0x33]
      { base with sp := 0xFFFF, f := 0xF0 }).map (fun t => (t.sp, t.pc, t.returned))
    = some (0x0000, 0x0201, 8) := by rfl

theorem test_vector_45_pairs_DEC_DE : (ran [0x1B]
      { base with d := 0x00, e := 0x00, f := 0x50 }).map (fun t => (t.d, t.e, t.pc, t.returned))
    = some (0xFF, 0xFF, 0x0201, 8) := by rfl

theorem test_vector_40_1 : (ran [0x41] { base with b := 0x12, c := 0x34 }).map (fun t => (t.b, t.pc, t.returned))
    = some (0x34, 0x0201, 4) := by rfl

theorem test_vector_40_2 : (ran [0x7F] { base with a := 0x5A }).map (fun t => (t.pc, t.returned))
    = some (0x0201, 4) := by rfl

theorem test_vector_40_3 : (ran [0x66]
      (poke [(0xC000, 0x99)] { base with h := 0xC0, l := 0x00 })).map (fun t => (t.h, t.pc, t.returned))
    = some (0x99, 0x0201, 8) := by rfl

theorem test_vector_40_4 : (ran [0x74]
      { base with h := 0xC0, l := 0xC0 }).map (fun t => (t.pc, t.readByte 0xC0C0, t.returned))
    = some (0x0201, 0xC0, 8) := by rfl

theorem test_vector_40_5 : (ran [0x1E, 0x80] base).map (fun t => (t.e, t.pc, t.returned))
    = some (0x80, 0x0202, 8) := by rfl

theorem test_vector_40_6 : (ran [0x36, 0x55]
      (poke [(0xFF04, 0x12)] { base with h := 0xFF, l := 0x04, sysCounter := 4660 })).map
      (fun t => (t.pc, t.cell 0xFF04, t.returned))
    = some (0x0202, 0x00, 12) := by rfl

theorem test_vector_40_8 : (ran [0x7E] { base with h := 0xFE, l := 0xA0 }).map (fun t => (t.a, t.pc, t.returned))
    = some (0xFF, 0x0201, 8) := by rfl

theorem test_vector_40_9 : (ran [0x0A]
      (poke [(0xC123, 0x77)] { base with b := 0xE1, c := 0x23 })).map (fun t => (t.a, t.pc, t.returned))
    = some (0x77, 0x0201, 8) := by decide +kernel

theorem test_vector_40_10 : (ran [0x12]
      { base with d := 0x20, e := 0x00, a := 0x03 }).map (fun t => (t.pc, t.returned))
    = some (0x0201, 8) := by rfl

theorem test_vector_40_11 : (ran [0xFA, 0xFF, 0xFF]
      (poke [(0xFFFF, 0x05)] base)).map (fun t => (t.a, t.pc, t.returned))
    = some (0x05, 0x0203, 16) := by rfl

theorem test_vector_40_12 : (ran [0xEA, 0x44, 0xFF]
      (poke [(0xFF44, 0x90)] { base with a := 0x7F })).map (fun t => (t.pc, t.cell 0xFF44, t.returned))
    = some (0x0203, 0x00, 16) := by rfl

theorem test_vector_40_14 : (ran [0xE0, 0x07]
      (poke [(0xFF07, 0x00)] { base with a := 0x05, countdown := 1000 })).map
      (fun t => (t.pc, t.countdown, t.cell 0xFF07, t.returned))
    = some (0x0202, 4, 0x05, 12) := by rfl

theorem test_vector_40_15 : (ran [0xF0, 0x04]
      (poke [(0xFF04, 0x12)] { base with sysCounter := 4660 })).map (fun t => (t.a, t.pc, t.returned))
    = some (0x12, 0x0202, 12) := by rfl

theorem test_vector_40_16 : (ran [0xE2]
      { base with c := 0x80, a := 0x77 }).map (fun t => (t.pc, t.readByte 0xFF80, t.returned))
    = some (0x0201, 0x77, 8) := by rfl

theorem test_vector_40_17 : (ran [0xF2]
      (poke [(0xFF0F, 0xE4)] { base with c := 0x0F })).map (fun t => (t.a, t.pc, t.returned))
    = some (0xE4, 0x0201, 8) := by rfl

theorem test_vector_40_18 : (ran [0x22]
      { base with h := 0xFF, l := 0xFF, a := 0x1F }).map (fun t => (t.h, t.l, t.pc, t.cell 0xFFFF, t.returned))
    = some (0x00, 0x00, 0x0201, 0x1F, 8) := by rfl

theorem test_vector_40_19 : (ran [0x3A]
      { base with h := 0x00, l := 0x00 }).map (fun t => (t.a, t.h, t.l, t.pc, t.returned))
    = some (0x00, 0xFF, 0xFF, 0x0201, 8) := by rfl

theorem test_vector_40_20 : (ran [0x32]
      { base with h := 0xC0, l := 0x01, a := 0x00 }).map (fun t => (t.l, t.pc, t.returned))
    = some (0x00, 0x0201, 8) := by rfl

theorem test_vector_40_21 : (ran [0x2A]
      (poke [(0xC0FF, 0x10)] { base with h := 0xC0, l := 0xFF })).map (fun t => (t.a, t.h, t.l, t.pc, t.returned))
    = some (0x10, 0xC1, 0x00, 0x0201, 8) := by rfl

theorem test_vector_41_1 : (ran [0x31, 0x00, 0xE0] base).map (fun t => (t.sp, t.pc, t.returned))
    = some (0xE000, 0x0203, 12) := by rfl

theorem test_vector_41_2 : (ran [0x08, 0xFF, 0xFF]
      { base with sp := 0x1234 }).map (fun t => (t.pc, t.cell 0xFFFF, t.returned))
    = some (0x0203, 0x34, 20) := by rfl

theorem test_vector_41_3 : (ran [0xF9] { base with h := 0xDF, l := 0xF0 }).map (fun t => (t.sp, t.pc, t.returned))
    = some (0xDFF0, 0x0201, 8) := by rfl

theorem test_vector_41_4 : (ran [0xC5]
      { base with sp := 0xFFFE, b := 0x12, c := 0x34 }).map
      (fun t => (t.sp, t.pc, t.readByte 0xFFFC, t.readByte 0xFFFD, t.returned))
    = some (0xFFFC, 0x0201, 0x34, 0x12, 16) := by rfl

theorem test_vector_41_5 : (ran [0xF5]
      { base with sp := 0xD000, a := 0x12, f := 0xF0 }).map
      (fun t => (t.sp, t.pc, t.readByte 0xCFFE, t.readByte 0xCFFF, t.returned))
    = some (0xCFFE, 0x0201, 0xF0, 0x12, 16) := by rfl

theorem test_vector_41_6 : (ran [0xD5]
      { base with sp := 0x0001, d := 0xAB, e := 0xCD }).map (fun t => (t.sp, t.pc, t.cell 0xFFFF, t.returned))
    = some (0xFFFF, 0x0201, 0xCD, 16) := by rfl

theorem test_vector_41_7 : (ran [0xF1]
      (poke [(0xC000, 0xFF), (0xC001, 0x12)] { base with sp := 0xC000 })).map
      (fun t => (t.a, t.f, t.sp, t.pc, t.returned))
    = some (0x12, 0xF0, 0xC002, 0x0201, 12) := by rfl

theorem test_vector_41_8 : (ran [0xE1]
      (poke [(0xFFFE, 0x34), (0xFFFF, 0x12)] { base with sp := 0xFFFE })).map
      (fun t => (t.h, t.l, t.sp, t.pc, t.returned))
    = some (0x12, 0x34, 0x0000, 0x0201, 12) := by rfl

theorem test_vector_41_9 : (ran [0xF8, 0x02] { base with sp := 0xFFF8 }).map (fun t => (t.h, t.l, t.pc, t.returned))
    = some (0xFF, 0xFA, 0x0202, 12) := by rfl

theorem test_vector_42_1 : (ran [0x80] { base with a := 0x3A, b := 0xC6 }).map (fun t => (t.a, t.f, t.pc, t.returned))
    = some (0x00, 0xB0, 0x0201, 4) := by rfl

theorem test_vector_42_3 : (ran [0x87] { base with a := 0x80 }).map (fun t => (t.a, t.f, t.pc, t.returned))
    = some (0x00, 0x90, 0x0201, 4) := by rfl

theorem test_vector_42_4 : (ran [0xCE, 0xFF]
      { base with a := 0x00, f := 0x10 }).map (fun t => (t.f, t.pc, t.returned))
    = some (0xB0, 0x0202, 8) := by rfl

theorem test_vector_42_6 : (ran [0x90] { base with a := 0x10, b := 0x01 }).map (fun t => (t.a, t.f, t.pc, t.returned))
    = some (0x0F, 0x60, 0x0201, 4) := by rfl

theorem test_vector_42_7 : (ran [0x97] { base with a := 0x5A }).map (fun t => (t.a, t.f, t.pc, t.returned))
    = some (0x00, 0xC0, 0x0201, 4) := by rfl

theorem test_vector_42_8 : (ran [0xDE, 0xFF]
      { base with a := 0x00, f := 0x10 }).map (fun t => (t.f, t.pc, t.returned))
    = some (0xF0, 0x0202, 8) := by rfl

theorem test_vector_42_10 : (ran [0xE6, 0x0F] { base with a := 0xF0 }).map (fun t => (t.a, t.f, t.pc, t.returned))
    = some (0x00, 0xA0, 0x0202, 8) := by rfl

theorem test_vector_42_11 : (ran [0xAF]
      { base with a := 0xFF, f := 0xF0 }).map (fun t => (t.a, t.f, t.pc, t.returned))
    = some (0x00, 0x80, 0x0201, 4) := by rfl

theorem test_vector_42_12 : (ran [0xB6]
      (poke [(0xC000, 0x00)] { base with a := 0x00, h := 0xC0, l := 0x00 })).map (fun t => (t.f, t.pc, t.returned))
    = some (0x80, 0x0201, 8) := by rfl

theorem test_vector_42_13 : (ran [0xFE, 0x90] { base with a := 0x3C }).map (fun t => (t.f, t.pc, t.returned))
    = some (0x50, 0x0202, 8) := by rfl

theorem test_vector_42_14 : (ran [0xBE]
      (poke [(0xC000, 0x3C)] { base with a := 0x3C, h := 0xC0, l := 0x00 })).map (fun t => (t.f, t.pc, t.returned))
    = some (0xC0, 0x0201, 8) := by rfl

theorem test_vector_42_17 : (ran [0x0D]
      { base with c := 0x00, f := 0x00 }).map (fun t => (t.f, t.c, t.pc, t.returned))
    = some (0x60, 0xFF, 0x0201, 4) := by rfl

theorem test_vector_42_19 : (ran [0x34]
      (poke [(0xC000, 0xFF)] { base with h := 0xC0, l := 0x00 })).map
      (fun t => (t.f, t.pc, t.readByte 0xC000, t.returned))
    = some (0xA0, 0x0201, 0x00, 12) := by rfl

theorem test_vector_42_20 : (ran [0x35]
      (poke [(0xFF05, 0x01)] { base with h := 0xFF, l := 0x05 })).map
      (fun t => (t.f, t.pc, t.cell 0xFF05, t.returned))
    = some (0xC0, 0x0201, 0x00, 12) := by rfl

theorem test_vector_42_21 : (ran [0x27]
      { base with a := 0x0F, f := 0x20 }).map (fun t => (t.a, t.f, t.pc, t.returned))
    = some (0x15, 0x00, 0x0201, 4) := by rfl

theorem test_vector_42_28 : (ran [0x2F] { base with a := 0x35 }).map (fun t => (t.a, t.f, t.pc, t.returned))
    = some (0xCA, 0x60, 0x0201, 4) := by rfl

theorem test_vector_42_29 : (ran [0x37] { base with f := 0xE0 }).map (fun t => (t.f, t.pc, t.returned))
    = some (0x90, 0x0201, 4) := by rfl

theorem test_vector_42_30 : (ran [0x3F] { base with f := 0x70 }).map (fun t => (t.f, t.pc, t.returned))
    = some (0x00, 0x0201, 4) := by rfl

theorem test_vector_43_1 : (ran [0x09]
      { base with h := 0x8A, l := 0x23, b := 0x06, c := 0x05 }).map (fun t => (t.f, t.h, t.l, t.pc, t.returned))
    = some (0x20, 0x90, 0x28, 0x0201, 8) := by rfl

theorem test_vector_43_2 : (ran [0x29]
      { base with h := 0x8A, l := 0x23 }).map (fun t => (t.f, t.h, t.l, t.pc, t.returned))
    = some (0x30, 0x14, 0x46, 0x0201, 8) := by rfl

theorem test_vector_43_3 : (ran [0x19]
      { base with h := 0xFF, l := 0xFF, d := 0x00, e := 0x01, f := 0x80 }).map
      (fun t => (t.f, t.h, t.l, t.pc, t.returned))
    = some (0xB0, 0x00, 0x00, 0x0201, 8) := by rfl

theorem test_vector_43_4 : (ran [0x39]
      { base with h := 0x0F, l := 0xFF, sp := 0x0001 }).map (fun t => (t.f, t.h, t.l, t.pc, t.returned))
    = some (0x20, 0x10, 0x00, 0x0201, 8) := by rfl

theorem test_vector_43_6 : (ran [0x3B] { base with sp := 0x0000 }).map (fun t => (t.sp, t.pc, t.returned))
    = some (0xFFFF, 0x0201, 8) := by rfl

theorem test_vector_43_7 : (ran [0x23] { base with h := 0x00, l := 0xFF }).map (fun t => (t.h, t.l, t.pc, t.returned))
    = some (0x01, 0x00, 0x0201, 8) := by rfl

theorem test_vector_43_8 : (ran [0xE8, 0x08] { base with sp := 0xFFF8 }).map (fun t => (t.f, t.sp, t.pc, t.returned))
    = some (0x30, 0x0000, 0x0202, 16) := by rfl

theorem test_vector_44_1 : (ran [0x07] { base with a := 0x85 }).map (fun t => (t.a, t.f, t.pc, t.returned))
    = some (0x0B, 0x10, 0x0201, 4) := by rfl

theorem test_vector_44_3 : (ran [0x0F] { base with a := 0x01 }).map (fun t => (t.a, t.f, t.pc, t.returned))
    = some (0x80, 0x10, 0x0201, 4) := by rfl

theorem test_vector_44_4 : (ran [0x17] { base with a := 0x80, f := 0x00 }).map (fun t => (t.a, t.f, t.pc, t.returned))
    = some (0x00, 0x10, 0x0201, 4) := by rfl

theorem test_vector_44_5 : (ran [0x1F] { base with a := 0x01, f := 0x10 }).map (fun t => (t.a, t.pc, t.returned))
    = some (0x80, 0x0201, 4) := by rfl

theorem test_vector_44_6 : (ran [0xCB, 0x00] { base with b := 0x00 }).map (fun t => (t.f, t.pc, t.returned))
    = some (0x80, 0x0202, 8) := by rfl

theorem test_vector_44_7 : (ran [0xCB, 0x0E]
      (poke [(0xC000, 0x01)] { base with h := 0xC0, l := 0x00 })).map
      (fun t => (t.f, t.pc, t.readByte 0xC000, t.returned))
    = some (0x10, 0x0202, 0x80, 16) := by rfl

theorem test_vector_44_8 : (ran [0xCB, 0x11]
      { base with c := 0x80, f := 0x00 }).map (fun t => (t.f, t.c, t.pc, t.returned))
    = some (0x90, 0x00, 0x0202, 8) := by rfl

theorem test_vector_44_9 : (ran [0xCB, 0x1A]
      { base with d := 0x00, f := 0x10 }).map (fun t => (t.f, t.d, t.pc, t.returned))
    = some (0x00, 0x80, 0x0202, 8) := by rfl

theorem test_vector_44_10 : (ran [0xCB, 0x23] { base with e := 0xFF }).map (fun t => (t.f, t.e, t.pc, t.returned))
    = some (0x10, 0xFE, 0x0202, 8) := by rfl

theorem test_vector_44_11 : (ran [0xCB, 0x2C] { base with h := 0x81 }).map (fun t => (t.f, t.h, t.pc, t.returned))
    = some (0x10, 0xC0, 0x0202, 8) := by rfl

theorem test_vector_44_12 : (ran [0xCB, 0x35]
      { base with l := 0x00, f := 0x70 }).map (fun t => (t.f, t.pc, t.returned))
    = some (0x80, 0x0202, 8) := by rfl

theorem test_vector_44_13 : (ran [0xCB, 0x3F] { base with a := 0xFF }).map (fun t => (t.a, t.f, t.pc, t.returned))
    = some (0x7F, 0x10, 0x0202, 8) := by rfl

theorem test_vector_44_14 : (ran [0xCB, 0x58]
      { base with b := 0x08, f := 0x10 }).map (fun t => (t.f, t.pc, t.returned))
    = some (0x30, 0x0202, 8) := by rfl

theorem test_vector_44_15 : (ran [0xCB, 0x7E]
      (poke [(0xC000, 0x7F)] { base with h := 0xC0, l := 0x00 })).map (fun t => (t.f, t.pc, t.returned))
    = some (0xA0, 0x0202, 12) := by rfl

theorem test_vector_44_16 : (ran [0xCB, 0x86]
      (poke [(0xC000, 0xFF)] { base with h := 0xC0, l := 0x00 })).map (fun t => (t.pc, t.readByte 0xC000, t.returned))
    = some (0x0202, 0xFE, 16) := by rfl

theorem test_vector_44_17 : (ran [0xCB, 0xFF]
      { base with a := 0x00, f := 0xF0 }).map (fun t => (t.a, t.pc, t.returned))
    = some (0x80, 0x0202, 8) := by rfl

theorem test_vector_44_18 : (ran [0xCB, 0xC6]
      (poke [(0xFF46, 0x00)] { base with h := 0xFF, l := 0x46 })).map (fun t => (t.pc, t.cell 0xFF46, t.returned))
    = some (0x0202, 0x01, 16) := by decide +kernel

theorem test_vector_45_1 : (ran [0xC3, 0x50, 0x01] base).map (fun t => (t.pc, t.returned))
    = some (0x0150, 16) := by rfl

theorem test_vector_45_2 : (ran [0xC2, 0x00, 0x40] { base with f := 0x80 }).map (fun t => (t.pc, t.returned))
    = some (0x0203, 12) := by rfl

theorem test_vector_45_3 : (ran [0xDA, 0x00, 0x40] { base with f := 0x10 }).map (fun t => (t.pc, t.returned))
    = some (0x4000, 16) := by rfl

theorem test_vector_45_4 : (ran [0xE9] { base with h := 0xC1, l := 0x23 }).map (fun t => (t.pc, t.returned))
    = some (0xC123, 4) := by rfl

theorem test_vector_45_5 : (ran [0x18, 0xFE] base).map (fun t => (t.returned))
    = some (12) := by rfl

theorem test_vector_45_8 : (ran [0x20, 0x05] { base with f := 0x80 }).map (fun t => (t.pc, t.returned))
    = some (0x0202, 8) := by rfl

theorem test_vector_45_10 : (ran [0x30, 0xFB] { base with f := 0x00 }).map (fun t => (t.pc, t.returned))
    = some (0x01FD, 12) := by rfl

theorem test_vector_45_11 : (ran [0xCD, 0x00, 0x20]
      { base with sp := 0xFFFE }).map (fun t => (t.sp, t.pc, t.readByte 0xFFFC, t.readByte 0xFFFD, t.returned))
    = some (0xFFFC, 0x2000, 0x03, 0x02, 24) := by rfl

theorem test_vector_45_12 : (ran [0xCC, 0x00, 0x20]
      { base with sp := 0xD000, f := 0x00 }).map (fun t => (t.pc, t.returned))
    = some (0x0203, 12) := by rfl

theorem test_vector_45_13 : (ran [0xC9]
      (poke [(0xFFFC, 0x53), (0xFFFD, 0x01)] { base with sp := 0xFFFC })).map (fun t => (t.sp, t.pc, t.returned))
    = some (0xFFFE, 0x0153, 16) := by rfl

theorem test_vector_45_14 : (ran [0xD0]
      (poke [(0xFFFC, 0x53), (0xFFFD, 0x01)] { base with sp := 0xFFFC, f := 0x10 })).map (fun t => (t.pc, t.returned))
    = some (0x0201, 8) := by rfl

theorem test_vector_45_15 : (ran [0xD8]
      (poke [(0xFFFC, 0x53), (0xFFFD, 0x01)] { base with sp := 0xFFFC, f := 0x10 })).map
      (fun t => (t.sp, t.pc, t.returned))
    = some (0xFFFE, 0x0153, 20) := by rfl

theorem test_vector_45_16 : (ran [0xD9]
      (poke [(0xFFFA, 0x34), (0xFFFB, 0x12)] { base with sp := 0xFFFA, ime := false })).map
      (fun t => (t.sp, t.pc, t.ime, t.returned))
    = some (0xFFFC, 0x1234, true, 16) := by rfl

theorem test_vector_45_17 : (ran [0xFF]
      { base with sp := 0xFFFE }).map (fun t => (t.sp, t.pc, t.readByte 0xFFFC, t.readByte 0xFFFD, t.returned))
    = some (0xFFFC, 0x0038, 0x01, 0x02, 16) := by rfl

theorem test_vector_45_18 : (ran [0xC7] { base with sp := 0xC000 }).map (fun t => (t.sp, t.pc, t.returned))
    = some (0xBFFE, 0x0000, 16) := by rfl

theorem test_vector_46_1 : (ran [0x00] base).map (fun t => (t.pc, t.returned))
    = some (0x0201, 4) := by rfl

theorem test_vector_46_2 : (ran [0x76]
      (poke [(0xFFFF, 0x04), (0xFF0F, 0x00)] { base with ime := false })).map (fun t => (t.pc, t.mode, t.returned))
    = some (0x0201, Mode.halted, 4) := by rfl

theorem test_vector_46_5 : (ran [0x10, 0x00] base).map (fun t => (t.pc, t.mode, t.returned))
    = some (0x0202, Mode.stopped, 4) := by rfl

theorem test_vector_46_6 : (ran [0xF3] { base with ime := true }).map (fun t => (t.pc, t.ime, t.returned))
    = some (0x0201, false, 4) := by rfl

theorem test_vector_46_8 : (ran [0xFB]
      (poke [(0xFFFF, 0x01), (0xFF0F, 0x01)] base)).map (fun t => (t.pc, t.eiPending, t.returned))
    = some (0x0201, true, 4) := by rfl

theorem test_vector_46_9 : (ran [0xD3] base).map (fun t => (t.pc, t.returned))
    = some (0x0201, 4) := by rfl

theorem test_vector_46_10 : (ran [0xFD, 0x00] base).map (fun t => (t.pc, t.returned))
    = some (0x0201, 4) := by rfl

theorem test_vector_60_1 : (ran [0x00]
      (poke [(0xFFFF, 0x05), (0xFF0F, 0x05)] { base with ime := true })).map
      (fun t => (t.sp, t.pc, t.ime, t.cell 0xFF0F, t.readByte 0xFFFC, t.readByte 0xFFFD, t.returned))
    = some (0xFFFC, 0x0040, false, 0x04, 0x01, 0x02, 24) := by rfl

theorem test_vector_60_15 : (ran [0xCD, 0x00, 0x20]
      (poke [(0xFF07, 0x05), (0xFF05, 0x10)] { base with sp := 0xFFFE, countdown := 4 })).map
      (fun t => (t.sp, t.pc, t.countdown, t.cell 0xFF05, t.readByte 0xFFFC, t.readByte 0xFFFD, t.returned))
    = some (0xFFFC, 0x2000, 12, 0x12, 0x03, 0x02, 24) := by rfl

theorem test_vector_20_3 : (ran [0xE0, 0x46]
      (poke [(0xC100, 0x11), (0xC101, 0x22), (0xC19F, 0x33)] { base with a := 0xC1 })).map
      (fun t => (t.pc, t.readByte 0xFE00, t.readByte 0xFE01, t.readByte 0xFE9F, t.cell 0xFF46, t.returned))
    = some (0x0202, 0x11, 0x22, 0x33, 0xC1, 12) := by decide +kernel

theorem test_vector_20_6 : (ran [0xFA, 0x00, 0xA0] base).map (fun t => (t.a, t.pc, t.returned))
    = some (0xFF, 0x0203, 16) := by rfl

theorem test_vector_20_9 : (ran [0xF0, 0x00] (poke [(0xFF00, 0x20)] base)).map (fun t => (t.a, t.pc, t.returned))
    = some (0x2F, 0x0202, 12) := by rfl

/-! ## A witness for the hypotheses of every statement that has some -/

theorem inv_base : Inv base where
  mem_wf := by decide
  mem_owned := by decide
  cart_valid := by decide
  flags_low := by decide
  div_eq := by rfl
  countdown_pos := by decide
  countdown_le := by decide

/-- A running state with an opcode at its pc, in work RAM. -/
def at_ (op : Byte) : State := poke [(0xC000, op)] { base with pc := 0xC000 }

/-- A halted state with the timer's interrupt requested and enabled. -/
def halted : State := poke [(0xFF0F, 0x04), (0xFFFF, 0x04)] { base with mode := .halted }

theorem test_witness_ResetKeepsInvariant :
    Cart.valid { kind := .romOnly, rom := [(0x0100, 0xC3), (0x7FFF, 0x01)], writes := [] } ∧
    Cart.valid { kind := .banked, rom := [(0x8000, 0x12)], writes := [.writeRAM 0xA000 1, .handleBankingWrite 0x2000 3] } := by
  decide

theorem test_witness_StepKeepsInvariant : Inv base ∧ ∃ t, step base = .next t := ⟨inv_base, _, rfl⟩

theorem test_witness_DecodeEncodeRoundTrip :
    wellFormed (.jp_nn 0xFFFF) = true ∧ wellFormed (.undefined 0xFD) = true ∧ wellFormed (.stop 0xFF) = true := by decide +kernel

theorem test_witness_DecodedBytesAreAnEncoding : decode [0xC3, 0xFF, 0xFF, 0x00] = .ok (.jp_nn 0xFFFF, [0x00]) := by rfl

theorem test_witness_OpcodeFixesTheLength :
    instrLength 0xFA ≤ [0x00, 0xC0].length + 1 ∧ [0x00].length + 1 < instrLength 0xFA ∧
    instrLength 0xCB ≤ [0x00].length + 1 ∧ ([] : List Byte).length + 1 < instrLength 0xCB := by decide

theorem test_witness_UndefinedOpcodes :
    base.params.illegalOpcodePolicy = .nop ∧
    { base with params := { base.params with illegalOpcodePolicy := .stuck } }.params.illegalOpcodePolicy = .stuck ∧
    decode3 0xD3 0 0 = .undefined 0xD3 ∧ decode3 0xFD 0 0 = .undefined 0xFD := ⟨rfl, rfl, rfl, rfl⟩

theorem test_witness_StepRunsDecodedInstruction :
    (at_ 0xC3).mode = .running ∧
    decode ((List.range 3).map (fun j => (at_ 0xC3).readByte ((at_ 0xC3).pc + BitVec.ofNat 16 j))) = .ok (.jp_nn 0, []) ∧
    decode ((List.range 1).map (fun j => (at_ 0x76).readByte ((at_ 0x76).pc + BitVec.ofNat 16 j))) = .ok (.halt, []) :=
  ⟨rfl, rfl, rfl⟩

theorem test_witness_FinishStepPhases :
    ((({ base with mode := .stopped } : State).timerAdvance 4).peripheralsAdvance.mode = .stopped) ∧
    (((base.timerAdvance 4).peripheralsAdvance.mode ≠ .stopped) ∧
      (base.timerAdvance 4).peripheralsAdvance.cell 0xFF0F &&& (base.timerAdvance 4).peripheralsAdvance.cell 0xFFFF &&& 0x1F = 0) ∧
    (let d := (halted.timerAdvance 4).peripheralsAdvance;
      d.mode ≠ .stopped ∧ (d.cell 0xFF0F &&& d.cell 0xFFFF &&& 0x1F) ≠ 0 ∧ d.ime = false) ∧
    (let d := (({ halted with ime := true } : State).timerAdvance 4).peripheralsAdvance;
      d.mode ≠ .stopped ∧ (d.cell 0xFF0F &&& d.cell 0xFFFF &&& 0x1F) ≠ 0 ∧ d.ime = true) := by
  decide +kernel

theorem test_witness_WaitingStep :
    halted.mode ≠ .running ∧ (halted.finishStep 4).returned = 4 ∧ (({ halted with ime := true } : State).finishStep 4).returned = 24 ∧
    ({ base with mode := .stopped } : State).mode = .stopped := by decide +kernel

theorem test_witness_EveryStepGoesOn :
    base.params.illegalOpcodePolicy = .nop ∧
    step { at_ 0xFD with params := { base.params with illegalOpcodePolicy := .stuck } } =
      .fault (.stuckOnUndefinedOpcode 0xFD) := ⟨rfl, rfl⟩

theorem test_witness_StepReturnsFourToFortyFour :
    (∃ t, step base = .next t ∧ t.returned = 4) ∧
    (∃ t, step (poke [(0xFF0F, 0x01), (0xFFFF, 0x01)] { at_ 0xCD with ime := true }) = .next t ∧ t.returned = 44) :=
  ⟨⟨_, rfl, rfl⟩, ⟨_, rfl, rfl⟩⟩

theorem test_witness_InstructionCosts :
    wellFormed .set_7_mHL = true ∧ wellFormed (.call_NZ_nn 0) = true ∧ wellFormed (.undefined 0xD3) = true ∧
    (∃ t, exec .set_7_mHL base = .next t) ∧ (∃ t, exec (.call_NZ_nn 0) base = .next t) ∧
    (∃ t, exec (.call_NZ_nn 0) { base with f := 0x80 } = .next t) ∧ (∃ t, exec (.undefined 0xD3) base = .next t) :=
  ⟨rfl, rfl, rfl, ⟨_, rfl⟩, ⟨_, rfl⟩, ⟨_, rfl⟩, ⟨_, rfl⟩⟩

theorem test_witness_StepKeepsRomAndParameters :
    (∃ t, step base = .next t) ∧ base.cart.kind = .romOnly ∧ (0x7FFF : Word).toNat < 0x8000 ∧
    0xFEA0 ≤ (0xFEA0 : Word).toNat ∧ (0xFEFF : Word).toNat ≤ 0xFEFF := ⟨⟨_, rfl⟩, rfl, by decide, by decide, by decide⟩

theorem test_witness_OnlySystemInstructionsChangeControlState :
    wellFormed .nop = true ∧ (∃ t, exec .nop base = .next t) ∧ (encode .nop).getD 0 0 ∉ ([0xF3, 0xFB, 0xD9, 0x76, 0x10] : List Byte) ∧
    (∃ t, exec .ei base = .next t) ∧ (encode .ei).getD 0 0 ∉ ([0xF3, 0xD9] : List Byte) :=
  ⟨rfl, ⟨_, rfl⟩, by decide, ⟨_, rfl⟩, by decide⟩

theorem test_witness_WhatEachOpcodeMayWrite :
    wellFormed .ld_B_C = true ∧ (∃ t, exec .ld_B_C base = .next t) ∧ wellFormed .bit_0_mHL = true ∧ (∃ t, exec .bit_0_mHL base = .next t) ∧
    (0x41 : Byte) ∉ pcWriters ∧ (0x41 : Byte) ∉ spWriters ∧ (0x41 : Byte) ∉ flagWriters ∧ (0x41 : Byte) ∉ storingOpcodes ∧
    ¬ (0x80 ≤ (0x41 : Byte).toNat ∧ (0x41 : Byte).toNat < 0xC0) ∧ (0xCB : Byte) ∉ storingOpcodes ∧
    (encode .bit_0_mHL).getD 1 0 = 0x46 ∧ ¬ ((0x46 : Byte).extractLsb' 0 3 = 6#3 ∧ (0x46 : Byte).extractLsb' 6 2 ≠ 1#2) := by
  refine ⟨rfl, ⟨_, rfl⟩, rfl, ⟨_, rfl⟩, ?_⟩
  decide

theorem test_witness_PlainMemoryAndEcho :
    (∀ a ∈ ([0x8000, 0x9FFF, 0xC000, 0xCFFF, 0xD000, 0xDFFF, 0xFE00, 0xFE9F, 0xFF80, 0xFFFE, 0xFFFF] : List Word),
      classifyAddress a ∈ [Region.vram, .wram0, .wramx, .oam, .hram, .ie]) ∧
    (classifyAddress 0xE000 = .echo ∧ classifyAddress 0xFDFF = .echo) ∧
    ((0xE001 : Word) ≠ 0xC000 ∧ ¬ (classifyAddress 0xE001 = .echo ∧ (0xE001 : Word).toNat = (0xC000 : Word).toNat + 0x2000)) := by
  simp [classifyAddress]

theorem test_witness_CartridgeAndGap :
    (0x7FFF : Word).toNat ≤ 0x7FFF ∧ (0xA000 ≤ (0xBFFF : Word).toNat ∧ (0xBFFF : Word).toNat ≤ 0xBFFF) ∧
    (0xFEA0 ≤ (0xFEFF : Word).toNat ∧ (0xFEFF : Word).toNat ≤ 0xFEFF) ∧ base.cart.kind = .romOnly := by decide +kernel

theorem test_witness_IoReads :
    Inv base ∧ ({ base with joy := [(0x00, 0xCE)] } : State).joy.lookup (({ base with joy := [(0x00, 0xCE)] } : State).cell 0xFF00) = some 0xCE ∧
    (0xFF00 ≤ (0xFF7F : Word).toNat ∧ (0xFF7F : Word).toNat ≤ 0xFF7F ∧ (0xFF7F : Word) ≠ 0xFF00 ∧ (0xFF7F : Word) ≠ 0xFF04) :=
  ⟨inv_base, rfl, by decide⟩

theorem test_witness_IoWrites :
    ∀ a ∈ ([0xFF01, 0xFF05, 0xFF06, 0xFF0F, 0xFF45, 0xFF47, 0xFF7F] : List Word), 0xFF00 ≤ a.toNat ∧ a.toNat ≤ 0xFF7F ∧
      a ∉ ([0xFF00, 0xFF04, 0xFF07, 0xFF44, 0xFF46] : List Word) := by
  simp

theorem test_witness_OamDmaCopies160Bytes :
    0 < 160 ∧ 159 < 160 ∧ classifyAddress 0xFDFF ≠ .oam ∧ classifyAddress 0xFEA0 ≠ .oam := by decide +kernel

theorem test_witness_PrivilegedWrites :
    (0xFF00 ≤ (0xFF44 : Word).toNat ∧ (0xFF44 : Word).toNat ≤ 0xFF7F) ∧ ¬ (0xFF00 ≤ (0xFF80 : Word).toNat ∧ (0xFF80 : Word).toNat ≤ 0xFF7F) ∧
    0 ≤ 4 ∧ 4 ≤ 4 ∧ (0xFF04 : Nat) ≠ 0xFF0F := by decide +kernel

/-- Addresses that a write may not change, for the frames of all storing instructions: one write in plain memory, in the echo, in the
gap, in the I/O block, on DMA and in ROM. -/
theorem test_witness_frames :
    ¬ mayChange base 0xC000 0xC001 ∧ ¬ mayChange base 0xC000 0xE001 ∧ mayChange base 0xC000 0xE000 ∧ ¬ mayChange base 0xE000 0xC001 ∧
    ¬ mayChange base 0xFEA0 0xFEA0 ∧ ¬ mayChange base 0xFF05 0xFF06 ∧ ¬ mayChange base 0xFF46 0xFF47 ∧ mayChange base 0xFF46 0xFE00 ∧
    ¬ mayChange base 0x2000 0x4000 := by
  simp [mayChange, ramKey, classifyAddress, base, State.reset, State.powerOn]

theorem test_witness_PushThenPopRestores :
    ramKey (0xFFFE - 1) ≠ none ∧ ramKey (0xFFFE - 2) ≠ none ∧ ramKey (0x0000 - 1) ≠ none ∧ ramKey (0x0000 - 2) ≠ none ∧
    ramKey (0xE001 - 1) ≠ none ∧ ramKey (0xE001 - 2) ≠ none ∧ base.f &&& 0x0F = 0 := by decide +kernel

theorem test_witness_ReturnUndoesCall :
    ramKey (0x8002 - 1) ≠ none ∧ ramKey (0x8002 - 2) ≠ none ∧ ramKey (base.sp - 1) ≠ none ∧ ramKey (base.sp - 2) ≠ none := by decide +kernel

theorem test_witness_DecimalAdjustCorrectsBcd :
    (99 < 100 ∧ 0 < 100) ∧ (let s : State := { base with a := 0x99, b := 0x00 }
      s.a.toNat = 99 / 10 * 16 + 99 % 10 ∧ s.b.toNat = 0 / 10 * 16 + 0 % 10) := by decide

theorem test_witness_EiTakesEffectOneStepLate :
    ({ base with eiPending := true } : State).eiPending = true ∧
    ((at_ 0xFB).mode = .running ∧ (at_ 0xFB).readByte (at_ 0xFB).pc = 0xFB ∧ (at_ 0xFB).ime = false ∧ (at_ 0xFB).eiPending = false) ∧
    ((at_ 0xF3).mode = .running ∧ (at_ 0xF3).readByte (at_ 0xF3).pc = 0xF3) := by decide +kernel

theorem test_witness_WakingUp :
    (halted.mode = .halted ∧ halted.eiPending = false ∧ halted.cell 0xFF0F &&& halted.cell 0xFFFF &&& 0x1F ≠ 0 ∧ halted.ime = false) ∧
    ({ halted with ime := true } : State).ime = true ∧
    (poke [(0xFF0F, 0x10)] { base with mode := .stopped }).mode = .stopped ∧
    ((poke [(0xFF0F, 0x10)] { base with mode := .stopped }).cell 0xFF0F).getLsbD 4 = true ∧
    (({ base with mode := .stopped } : State).cell 0xFF0F).getLsbD 4 = false ∧ base.periph = [] := by decide +kernel

theorem test_witness_TimerCountsExactly :
    ((base.cell 0xFF07).getLsbD 2 = false) ∧ (((poke [(0xFF07, 0x05)] base).cell 0xFF07).getLsbD 2 = true ∧
      1 ≤ (poke [(0xFF07, 0x05)] { base with countdown := 1 }).countdown) := by decide +kernel

theorem test_witness_TimerAdvanceAddsUp : Inv base := inv_base

theorem test_witness_PeripheralsAreBounded :
    base.periph = [] ∧ ((0xFF03 : Nat) ≠ 0xFF0F ∧ ¬ (0xFF01 ≤ 0xFF03 ∧ 0xFF03 ≤ 0xFF02) ∧ ¬ (0xFF10 ≤ 0xFF03 ∧ 0xFF03 ≤ 0xFF3F) ∧
      ¬ (0xFF40 ≤ 0xFF03 ∧ 0xFF03 ≤ 0xFF4B)) ∧
    ((poke [(0xFF0F, 0x84)] base).cell 0xFF0F).getLsbD 7 = true := by decide +kernel

theorem test_witness_BitResetAndSet : 0 < 8 ∧ 7 < 8 := by decide

theorem test_witness_ServiceEntry : 0 < 8 ∧ 7 < 8 := by decide

end Sys2Proof.Tests
end

section
/-! SUPPORT. What an instruction may change, said once for all 502: each runs within the footprint that its opcode names, and keeps
the invariant (spec/10_state.md R34 to R42, spec/20_memory.md R102, R103, spec/45_control.md R459). -/

namespace Sys2Proof.Machine

/-- Which parts of the state an instruction may write, beside the 8-bit registers and the cycle count. -/
structure Footprint where
  pc : Bool
  sp : Bool
  flags : Bool
  /-- Memory, the cartridge and the timer's counters, which a CPU write reaches. -/
  stores : Bool
  ime : Bool
  eiPending : Bool
  mode : Bool

/-- The footprint that the first two bytes of an encoding allow. -/
def Footprint.ofBytes (b0 b1 : Byte) : Footprint where
  pc := decide (b0 ∈ pcWriters)
  sp := decide (b0 ∈ spWriters)
  flags := decide (b0 ∈ flagWriters ∨ (0x80 ≤ b0.toNat ∧ b0.toNat < 0xC0) ∨ (b0 = 0xCB ∧ b1.toNat < 0x80))
  stores := decide (b0 ∈ storingOpcodes ∨ (b0 = 0xCB ∧ b1.extractLsb' 0 3 = 6#3 ∧ b1.extractLsb' 6 2 ≠ 1#2))
  ime := decide (b0 ∈ ([0xF3, 0xD9] : List Byte))
  eiPending := decide (b0 ∈ ([0xF3, 0xFB, 0xD9] : List Byte))
  mode := decide (b0 ∈ ([0x76, 0x10] : List Byte))

/-- The footprint that an instruction's encoding allows. -/
def footprint (i : Instr) : Footprint := .ofBytes ((encode i).getD 0 0) ((encode i).getD 1 0)

/-- From `s` to `t` nothing outside the footprint changes, and the invariant is kept. -/
structure Keeps (fp : Footprint) (s t : State) : Prop where
  inv : Inv s → Inv t
  pc : fp.pc = false → t.pc = s.pc
  sp : fp.sp = false → t.sp = s.sp
  flags : fp.flags = false → t.f = s.f
  bus : fp.stores = false →
    t.mem = s.mem ∧ t.cart = s.cart ∧ t.sysCounter = s.sysCounter ∧ t.countdown = s.countdown
  ime : fp.ime = false → t.ime = s.ime
  eiPending : fp.eiPending = false → t.eiPending = s.eiPending
  mode : fp.mode = false → t.mode = s.mode
  devices : t.joy = s.joy ∧ t.periph = s.periph ∧ t.params = s.params ∧ t.returned = s.returned

/-- A meaning's answer, if it is a next state, keeps what lies outside the footprint. -/
def ResultKeeps (fp : Footprint) (s : State) (r : Result) : Prop := ∀ t, r = .next t → Keeps fp s t

section
variable {fp : Footprint} {s t : State}

/-! ### One rule per state operation -/

theorem Keeps.refl : Keeps fp s s where
  inv := id
  pc _ := rfl
  sp _ := rfl
  flags _ := rfl
  bus _ := ⟨rfl, rfl, rfl, rfl⟩
  ime _ := rfl
  eiPending _ := rfl
  mode _ := rfl
  devices := ⟨rfl, rfl, rfl, rfl⟩

theorem Keeps.setR8 (k : Keeps fp s t) (r : Reg8) (v : Byte) : Keeps fp s (t.setR8 r v) := by
  cases r <;> exact { k with inv := fun h => { k.inv h with } }

theorem Keeps.setHL (k : Keeps fp s t) (w : Word) : Keeps fp s (t.setHL w) :=
  { k with inv := fun h => { k.inv h with } }

theorem Keeps.spend (k : Keeps fp s t) (n : Nat) : Keeps fp s (t.spend n) :=
  { k with inv := fun h => { k.inv h with } }

theorem Keeps.jump (k : Keeps fp s t) (hpc : fp.pc = true) (w : Word) : Keeps fp s (t.jump w) :=
  { k with inv := fun h => { k.inv h with }, pc := by simp [hpc] }

theorem Keeps.setSp (k : Keeps fp s t) (hsp : fp.sp = true) (w : Word) : Keeps fp s { t with sp := w } :=
  { k with inv := fun h => { k.inv h with }, sp := by simp [hsp] }

theorem Keeps.setF (k : Keeps fp s t) (hf : fp.flags = true) (v : Byte) : Keeps fp s (t.setF v) :=
  { k with inv := fun h => { k.inv h with flags_low := setF_low t v }, flags := by simp [hf] }

theorem Keeps.setIme (k : Keeps fp s t) (hi : fp.ime = true) (v : Bool) : Keeps fp s { t with ime := v } :=
  { k with inv := fun h => { k.inv h with }, ime := by simp [hi] }

theorem Keeps.setEiPending (k : Keeps fp s t) (he : fp.eiPending = true) (v : Bool) :
    Keeps fp s { t with eiPending := v } :=
  { k with inv := fun h => { k.inv h with }, eiPending := by simp [he] }

theorem Keeps.setMode (k : Keeps fp s t) (hm : fp.mode = true) (md : Mode) : Keeps fp s { t with mode := md } :=
  { k with inv := fun h => { k.inv h with }, mode := by simp [hm] }

theorem Keeps.setR16 (k : Keeps fp s t) {p : Reg16} (hp : p = .sp → fp.sp = true) (w : Word) :
    Keeps fp s (t.setR16 p w) := by
  cases p with
  | bc => exact (k.setR8 .b (Word.hi w)).setR8 .c (Word.lo w)
  | de => exact (k.setR8 .d (Word.hi w)).setR8 .e (Word.lo w)
  | hl => exact k.setHL w
  | sp => exact k.setSp (hp rfl) w

theorem Keeps.setRstk (k : Keeps fp s t) {p : RegStk} (hp : p = .af → fp.flags = true) (w : Word) :
    Keeps fp s (t.setRstk p w) := by
  cases p with
  | bc => exact (k.setR8 .b (Word.hi w)).setR8 .c (Word.lo w)
  | de => exact (k.setR8 .d (Word.hi w)).setR8 .e (Word.lo w)
  | hl => exact k.setHL w
  | af => exact (k.setR8 .a (Word.hi w)).setF (hp rfl) (Word.lo w)

theorem Keeps.writeByte (k : Keeps fp s t) (hst : fp.stores = true) (a : Word) (v : Byte) :
    Keeps fp s (t.writeByte a v) := by
  have hinv : Inv s → Inv (t.writeByte a v) := fun h => writeByte_inv (k.inv h) a v
  obtain ⟨m, c, sc, cd, e, -⟩ := writeByte_only t a v
  rw [e] at hinv ⊢
  exact { k with inv := hinv, bus := by simp [hst] }

theorem Keeps.writeWord (k : Keeps fp s t) (hst : fp.stores = true) (a w : Word) : Keeps fp s (t.writeWord a w) :=
  (k.writeByte hst a (Word.lo w)).writeByte hst (a + 1) (Word.hi w)

theorem Keeps.push16 (k : Keeps fp s t) (hst : fp.stores = true) (hsp : fp.sp = true) (w : Word) :
    Keeps fp s (t.push16 w) :=
  (((k.setSp hsp _).writeByte hst _ _).setSp hsp _).writeByte hst _ _

theorem Keeps.pop16 (k : Keeps fp s t) (hsp : fp.sp = true) : Keeps fp s t.pop16 := k.setSp hsp _

theorem Keeps.call (k : Keeps fp s t) (hst : fp.stores = true) (hsp : fp.sp = true) (hpc : fp.pc = true) (w : Word) :
    Keeps fp s (t.call w) :=
  (k.push16 hst hsp t.pc).jump hpc w

theorem Keeps.ret (k : Keeps fp s t) (hsp : fp.sp = true) (hpc : fp.pc = true) : Keeps fp s t.ret :=
  (k.pop16 hsp).jump hpc t.popped

/-! ### The meanings that instructions share -/

theorem ResultKeeps.next (k : Keeps fp s t) : ResultKeeps fp s (.next t) := by
  rintro _ ⟨⟩
  exact k

theorem ldRegReg_keeps (r q : Reg8) : ResultKeeps fp s (ldRegReg r q s) := .next ((Keeps.refl.setR8 r _).spend 4)

theorem ldRegImm_keeps (r : Reg8) (n : Byte) : ResultKeeps fp s (ldRegImm r n s) :=
  .next ((Keeps.refl.setR8 r n).spend 8)

theorem ldRegMem_keeps (r : Reg8) : ResultKeeps fp s (ldRegMem r s) := .next ((Keeps.refl.setR8 r _).spend 8)

theorem ldAccFrom_keeps (a : Word) (n : Nat) : ResultKeeps fp s (ldAccFrom a n s) :=
  .next ((Keeps.refl.setR8 .a _).spend n)

theorem stMemReg_keeps (r : Reg8) (hst : fp.stores = true) : ResultKeeps fp s (stMemReg r s) :=
  .next ((Keeps.refl.writeByte hst _ _).spend 8)

theorem stAccTo_keeps (a : Word) (n : Nat) (hst : fp.stores = true) : ResultKeeps fp s (stAccTo a n s) :=
  .next ((Keeps.refl.writeByte hst a _).spend n)

theorem ldPairImm_keeps (p : Reg16) (nn : Word) (hp : p = .sp → fp.sp = true) : ResultKeeps fp s (ldPairImm p nn s) :=
  .next ((Keeps.refl.setR16 hp nn).spend 12)

theorem pushPair_keeps (p : RegStk) (hst : fp.stores = true) (hsp : fp.sp = true) : ResultKeeps fp s (pushPair p s) :=
  .next ((Keeps.refl.push16 hst hsp _).spend 16)

theorem popPair_keeps (p : RegStk) (hsp : fp.sp = true) (hp : p = .af → fp.flags = true) :
    ResultKeeps fp s (popPair p s) :=
  .next (((Keeps.refl.pop16 hsp).setRstk hp _).spend 12)

theorem addHL_keeps (p : Reg16) (hf : fp.flags = true) : ResultKeeps fp s (addHL p s) :=
  .next (((Keeps.refl.setHL _).setF hf _).spend 8)

theorem incPair_keeps (p : Reg16) (hp : p = .sp → fp.sp = true) : ResultKeeps fp s (incPair p s) :=
  .next ((Keeps.refl.setR16 hp _).spend 8)

theorem decPair_keeps (p : Reg16) (hp : p = .sp → fp.sp = true) : ResultKeeps fp s (decPair p s) :=
  .next ((Keeps.refl.setR16 hp _).spend 8)

theorem aluAcc_keeps (op : AluOp) (b : Byte) (n : Nat) (hf : fp.flags = true) : ResultKeeps fp s (aluAcc op b n s) :=
  .next (((Keeps.refl.setR8 .a _).setF hf _).spend n)

theorem aluReg_keeps (op : AluOp) (r : Reg8) (hf : fp.flags = true) : ResultKeeps fp s (aluReg op r s) :=
  aluAcc_keeps op _ 4 hf

theorem aluMem_keeps (op : AluOp) (hf : fp.flags = true) : ResultKeeps fp s (aluMem op s) := aluAcc_keeps op _ 8 hf

theorem aluImm_keeps (op : AluOp) (n : Byte) (hf : fp.flags = true) : ResultKeeps fp s (aluImm op n s) :=
  aluAcc_keeps op n 8 hf

theorem incReg_keeps (r : Reg8) (hf : fp.flags = true) : ResultKeeps fp s (incReg r s) :=
  .next (((Keeps.refl.setR8 r _).setF hf _).spend 4)

theorem decReg_keeps (r : Reg8) (hf : fp.flags = true) : ResultKeeps fp s (decReg r s) :=
  .next (((Keeps.refl.setR8 r _).setF hf _).spend 4)

theorem rotAcc_keeps (op : RotOp) (hf : fp.flags = true) : ResultKeeps fp s (rotAcc op s) :=
  .next (((Keeps.refl.setR8 .a _).setF hf _).spend 4)

theorem rotReg_keeps (op : RotOp) (r : Reg8) (hf : fp.flags = true) : ResultKeeps fp s (rotReg op r s) :=
  .next (((Keeps.refl.setR8 r _).setF hf _).spend 8)

theorem rotMem_keeps (op : RotOp) (hst : fp.stores = true) (hf : fp.flags = true) : ResultKeeps fp s (rotMem op s) :=
  .next (((Keeps.refl.writeByte hst _ _).setF hf _).spend 16)

theorem bitReg_keeps (b : BitVec 3) (r : Reg8) (hf : fp.flags = true) : ResultKeeps fp s (bitReg b r s) :=
  .next ((Keeps.refl.setF hf _).spend 8)

theorem bitMem_keeps (b : BitVec 3) (hf : fp.flags = true) : ResultKeeps fp s (bitMem b s) :=
  .next ((Keeps.refl.setF hf _).spend 12)

theorem resReg_keeps (b : BitVec 3) (r : Reg8) : ResultKeeps fp s (resReg b r s) :=
  .next ((Keeps.refl.setR8 r _).spend 8)

theorem resMem_keeps (b : BitVec 3) (hst : fp.stores = true) : ResultKeeps fp s (resMem b s) :=
  .next ((Keeps.refl.writeByte hst _ _).spend 16)

theorem setReg_keeps (b : BitVec 3) (r : Reg8) : ResultKeeps fp s (setReg b r s) :=
  .next ((Keeps.refl.setR8 r _).spend 8)

theorem setMem_keeps (b : BitVec 3) (hst : fp.stores = true) : ResultKeeps fp s (setMem b s) :=
  .next ((Keeps.refl.writeByte hst _ _).spend 16)

/-- A branch not taken writes nothing but the cycle count. -/
theorem branch_keeps {cc : Cond} {taken : State → State} {m n : Nat} (k : Keeps fp s (taken s)) :
    ResultKeeps fp s (branch cc taken m n s) := by
  unfold branch
  split
  · exact .next (k.spend m)
  · exact .next (Keeps.refl.spend n)

theorem jpCond_keeps (cc : Cond) (nn : Word) (hpc : fp.pc = true) : ResultKeeps fp s (jpCond cc nn s) :=
  branch_keeps (taken := fun s => s.jump nn) (Keeps.refl.jump hpc nn)

theorem jrCond_keeps (cc : Cond) (e : Byte) (hpc : fp.pc = true) : ResultKeeps fp s (jrCond cc e s) :=
  branch_keeps (taken := fun s => s.jump (s.pc + sext e)) (Keeps.refl.jump hpc _)

theorem callCond_keeps (cc : Cond) (nn : Word) (hst : fp.stores = true) (hsp : fp.sp = true) (hpc : fp.pc = true) :
    ResultKeeps fp s (callCond cc nn s) :=
  branch_keeps (taken := fun s => s.call nn) (Keeps.refl.call hst hsp hpc nn)

theorem retCond_keeps (cc : Cond) (hsp : fp.sp = true) (hpc : fp.pc = true) : ResultKeeps fp s (retCond cc s) :=
  branch_keeps (Keeps.refl.ret hsp hpc)

theorem execUndefined_keeps (op : Byte) : ResultKeeps fp s (execUndefined op s) := by
  unfold execUndefined
  split
  · exact .next (Keeps.refl.spend 4)
  · rintro t ⟨⟩

end

/-! ### The byte 0xCB with the byte after it, read by fields -/

theorem reg8Of_eq_none {z : BitVec 3} (h : reg8Of z = none) : z = 6#3 := by
  unfold reg8Of at h
  split_ifs at h
  assumption

/-- The rotates and BIT fill the lower half of the CB table (30_encoding.md R139). -/
theorem cb_group_lt {op2 : Byte} (h : op2.extractLsb' 6 2 = 0 ∨ op2.extractLsb' 6 2 = 1) : op2.toNat < 0x80 := by
  have hgroup : op2.toNat / 64 % 4 = 0 ∨ op2.toNat / 64 % 4 = 1 := by
    simpa [← BitVec.toNat_inj, Nat.shiftRight_eq_div_pow] using h
  omega

theorem runCB_keeps (op2 : Byte) (s : State) : ResultKeeps (footprint (.cbPrefix op2)) s (runCB op2 s) := by
  have hflags : op2.extractLsb' 6 2 = 0 ∨ op2.extractLsb' 6 2 = 1 → (footprint (.cbPrefix op2)).flags = true :=
    fun h => decide_eq_true (.inr (.inr ⟨rfl, cb_group_lt h⟩))
  unfold runCB
  cases hz : reg8Of (op2.extractLsb' 0 3) with
  | some r =>
    dsimp only
    split
    · exact rotReg_keeps _ r (hflags (.inl ‹_›))
    split
    · exact bitReg_keeps _ r (hflags (.inr ‹_›))
    split
    · exact resReg_keeps _ r
    · exact setReg_keeps _ r
  | none =>
    have hstores (hx : op2.extractLsb' 6 2 ≠ 1) : (footprint (.cbPrefix op2)).stores = true :=
      decide_eq_true (.inr ⟨rfl, reg8Of_eq_none hz, hx⟩)
    dsimp only
    split
    · rename_i hx
      exact rotMem_keeps _ (hstores (by simp [hx])) (hflags (.inl hx))
    split
    · exact bitMem_keeps _ (hflags (.inr ‹_›))
    split
    · exact resMem_keeps _ (hstores ‹_›)
    · exact setMem_keeps _ (hstores ‹_›)

/-! ### Every instruction -/

/-- Every instruction runs within the footprint that its encoding allows, and keeps the invariant. A case holds for any footprint,
or for one that has the parts its `rfl` or `decide` finds in the lists of opcodes. -/
theorem exec_keeps (i : Instr) (s : State) : ResultKeeps (footprint i) s (exec i s) := by
  cases i
  case ld_B_B | ld_B_C | ld_B_D | ld_B_E | ld_B_H | ld_B_L | ld_B_A | ld_C_B | ld_C_C | ld_C_D | ld_C_E | ld_C_H
      | ld_C_L | ld_C_A | ld_D_B | ld_D_C | ld_D_D | ld_D_E | ld_D_H | ld_D_L | ld_D_A | ld_E_B | ld_E_C
      | ld_E_D | ld_E_E | ld_E_H | ld_E_L | ld_E_A | ld_H_B | ld_H_C | ld_H_D | ld_H_E | ld_H_H | ld_H_L
      | ld_H_A | ld_L_B | ld_L_C | ld_L_D | ld_L_E | ld_L_H | ld_L_L | ld_L_A | ld_A_B | ld_A_C | ld_A_D
      | ld_A_E | ld_A_H | ld_A_L | ld_A_A => exact ldRegReg_keeps _ _
  case ld_B_n | ld_C_n | ld_D_n | ld_E_n | ld_H_n | ld_L_n | ld_A_n => exact ldRegImm_keeps _ _
  case ld_B_mHL | ld_C_mHL | ld_D_mHL | ld_E_mHL | ld_H_mHL | ld_L_mHL | ld_A_mHL => exact ldRegMem_keeps _
  case ldh_A_mn | ld_A_mnn | ld_A_mBC | ld_A_mDE | ldh_A_mC => exact ldAccFrom_keeps _ _
  case ld_A_mHLI | ld_A_mHLD => exact .next (((Keeps.refl.setR8 .a _).setHL _).spend 8)
  case ld_mHL_B | ld_mHL_C | ld_mHL_D | ld_mHL_E | ld_mHL_H | ld_mHL_L | ld_mHL_A => exact stMemReg_keeps _ rfl
  case ldh_mn_A | ld_mnn_A | ld_mBC_A | ld_mDE_A | ldh_mC_A => exact stAccTo_keeps _ _ rfl
  case ld_mHL_n => exact .next ((Keeps.refl.writeByte rfl _ _).spend 12)
  case ld_mHLI_A | ld_mHLD_A => exact .next (((Keeps.refl.writeByte rfl _ _).setHL _).spend 8)
  case ld_BC_nn | ld_DE_nn | ld_HL_nn => exact ldPairImm_keeps _ _ nofun
  case ld_SP_nn => exact ldPairImm_keeps _ _ fun _ => rfl
  case push_BC | push_DE | push_HL | push_AF => exact pushPair_keeps _ rfl rfl
  case pop_BC | pop_DE | pop_HL | pop_AF => exact popPair_keeps _ rfl (by decide)
  case ld_mnn_SP => exact .next ((Keeps.refl.writeWord rfl _ _).spend 20)
  case ld_SP_HL => exact .next ((Keeps.refl.setSp rfl _).spend 8)
  case ld_HL_SPe => exact .next (((Keeps.refl.setHL _).setF rfl _).spend 12)
  case add_A_B | add_A_C | add_A_D | add_A_E | add_A_H | add_A_L | add_A_A | adc_A_B | adc_A_C | adc_A_D
      | adc_A_E | adc_A_H | adc_A_L | adc_A_A | sub_B | sub_C | sub_D | sub_E | sub_H | sub_L | sub_A | sbc_A_B
      | sbc_A_C | sbc_A_D | sbc_A_E | sbc_A_H | sbc_A_L | sbc_A_A | and_B | and_C | and_D | and_E | and_H
      | and_L | and_A | xor_B | xor_C | xor_D | xor_E | xor_H | xor_L | xor_A | or_B | or_C | or_D | or_E | or_H
      | or_L | or_A | cp_B | cp_C | cp_D | cp_E | cp_H | cp_L | cp_A => exact aluReg_keeps _ _ rfl
  case add_A_mHL | adc_A_mHL | sub_mHL | sbc_A_mHL | and_mHL | xor_mHL | or_mHL | cp_mHL => exact aluMem_keeps _ rfl
  case add_A_n | adc_A_n | sub_n | sbc_A_n | and_n | xor_n | or_n | cp_n => exact aluImm_keeps _ _ rfl
  case inc_B | inc_C | inc_D | inc_E | inc_H | inc_L | inc_A => exact incReg_keeps _ rfl
  case dec_B | dec_C | dec_D | dec_E | dec_H | dec_L | dec_A => exact decReg_keeps _ rfl
  case inc_mHL | dec_mHL => exact .next (((Keeps.refl.writeByte rfl _ _).setF rfl _).spend 12)
  case daa | cpl => exact .next (((Keeps.refl.setR8 .a _).setF rfl _).spend 4)
  case scf | ccf => exact .next ((Keeps.refl.setF rfl _).spend 4)
  case add_HL_BC | add_HL_DE | add_HL_HL | add_HL_SP => exact addHL_keeps _ rfl
  case inc_BC | inc_DE | inc_HL | inc_SP => exact incPair_keeps _ (by decide)
  case dec_BC | dec_DE | dec_HL | dec_SP => exact decPair_keeps _ (by decide)
  case add_SP_e => exact .next (((Keeps.refl.setSp rfl _).setF rfl _).spend 16)
  case rlca | rrca | rla | rra => exact rotAcc_keeps _ rfl
  case rlc_B | rlc_C | rlc_D | rlc_E | rlc_H | rlc_L | rlc_A | rrc_B | rrc_C | rrc_D | rrc_E | rrc_H | rrc_L
      | rrc_A | rl_B | rl_C | rl_D | rl_E | rl_H | rl_L | rl_A | rr_B | rr_C | rr_D | rr_E | rr_H | rr_L | rr_A
      | sla_B | sla_C | sla_D | sla_E | sla_H | sla_L | sla_A | sra_B | sra_C | sra_D | sra_E | sra_H | sra_L
      | sra_A | swap_B | swap_C | swap_D | swap_E | swap_H | swap_L | swap_A | srl_B | srl_C | srl_D | srl_E
      | srl_H | srl_L | srl_A => exact rotReg_keeps _ _ rfl
  case rlc_mHL | rrc_mHL | rl_mHL | rr_mHL | sla_mHL | sra_mHL | swap_mHL | srl_mHL => exact rotMem_keeps _ rfl rfl
  case bit_0_B | bit_0_C | bit_0_D | bit_0_E | bit_0_H | bit_0_L | bit_0_A | bit_1_B | bit_1_C | bit_1_D
      | bit_1_E | bit_1_H | bit_1_L | bit_1_A | bit_2_B | bit_2_C | bit_2_D | bit_2_E | bit_2_H | bit_2_L
      | bit_2_A | bit_3_B | bit_3_C | bit_3_D | bit_3_E | bit_3_H | bit_3_L | bit_3_A | bit_4_B | bit_4_C
      | bit_4_D | bit_4_E | bit_4_H | bit_4_L | bit_4_A | bit_5_B | bit_5_C | bit_5_D | bit_5_E | bit_5_H
      | bit_5_L | bit_5_A | bit_6_B | bit_6_C | bit_6_D | bit_6_E | bit_6_H | bit_6_L | bit_6_A | bit_7_B
      | bit_7_C | bit_7_D | bit_7_E | bit_7_H | bit_7_L | bit_7_A => exact bitReg_keeps _ _ rfl
  case bit_0_mHL | bit_1_mHL | bit_2_mHL | bit_3_mHL | bit_4_mHL | bit_5_mHL | bit_6_mHL | bit_7_mHL =>
    exact bitMem_keeps _ rfl
  case res_0_B | res_0_C | res_0_D | res_0_E | res_0_H | res_0_L | res_0_A | res_1_B | res_1_C | res_1_D
      | res_1_E | res_1_H | res_1_L | res_1_A | res_2_B | res_2_C | res_2_D | res_2_E | res_2_H | res_2_L
      | res_2_A | res_3_B | res_3_C | res_3_D | res_3_E | res_3_H | res_3_L | res_3_A | res_4_B | res_4_C
      | res_4_D | res_4_E | res_4_H | res_4_L | res_4_A | res_5_B | res_5_C | res_5_D | res_5_E | res_5_H
      | res_5_L | res_5_A | res_6_B | res_6_C | res_6_D | res_6_E | res_6_H | res_6_L | res_6_A | res_7_B
      | res_7_C | res_7_D | res_7_E | res_7_H | res_7_L | res_7_A => exact resReg_keeps _ _
  case res_0_mHL | res_1_mHL | res_2_mHL | res_3_mHL | res_4_mHL | res_5_mHL | res_6_mHL | res_7_mHL =>
    exact resMem_keeps _ rfl
  case set_0_B | set_0_C | set_0_D | set_0_E | set_0_H | set_0_L | set_0_A | set_1_B | set_1_C | set_1_D
      | set_1_E | set_1_H | set_1_L | set_1_A | set_2_B | set_2_C | set_2_D | set_2_E | set_2_H | set_2_L
      | set_2_A | set_3_B | set_3_C | set_3_D | set_3_E | set_3_H | set_3_L | set_3_A | set_4_B | set_4_C
      | set_4_D | set_4_E | set_4_H | set_4_L | set_4_A | set_5_B | set_5_C | set_5_D | set_5_E | set_5_H
      | set_5_L | set_5_A | set_6_B | set_6_C | set_6_D | set_6_E | set_6_H | set_6_L | set_6_A | set_7_B
      | set_7_C | set_7_D | set_7_E | set_7_H | set_7_L | set_7_A => exact setReg_keeps _ _
  case set_0_mHL | set_1_mHL | set_2_mHL | set_3_mHL | set_4_mHL | set_5_mHL | set_6_mHL | set_7_mHL =>
    exact setMem_keeps _ rfl
  case cbPrefix => exact runCB_keeps _ s
  case jp_nn => exact .next ((Keeps.refl.jump rfl _).spend 16)
  case jp_HL => exact .next ((Keeps.refl.jump rfl _).spend 4)
  case jr_e => exact .next ((Keeps.refl.jump rfl _).spend 12)
  case jp_NZ_nn | jp_Z_nn | jp_NC_nn | jp_C_nn => exact jpCond_keeps _ _ rfl
  case jr_NZ_e | jr_Z_e | jr_NC_e | jr_C_e => exact jrCond_keeps _ _ rfl
  case call_nn => exact .next ((Keeps.refl.call rfl rfl rfl _).spend 24)
  case call_NZ_nn | call_Z_nn | call_NC_nn | call_C_nn => exact callCond_keeps _ _ rfl rfl rfl
  case rst_00H | rst_08H | rst_10H | rst_18H | rst_20H | rst_28H | rst_30H | rst_38H =>
    exact .next ((Keeps.refl.call rfl rfl rfl _).spend 16)
  case ret => exact .next ((Keeps.refl.ret rfl rfl).spend 16)
  case ret_NZ | ret_Z | ret_NC | ret_C => exact retCond_keeps _ rfl rfl
  case reti => exact .next ((((Keeps.refl.ret rfl rfl).setIme rfl _).setEiPending rfl _).spend 16)
  case nop => exact .next (Keeps.refl.spend 4)
  case undefined => exact execUndefined_keeps _
  case di => exact .next (((Keeps.refl.setIme (s := s) rfl false).setEiPending rfl false).spend 4)
  case ei => exact .next ((Keeps.refl.setEiPending rfl _).spend 4)
  case halt | stop => exact .next ((Keeps.refl.setMode rfl _).spend 4)

/-- Settles O17: the footprint of every other encoding leaves IME, the pending EI and the mode, and no footprint has the devices. -/
theorem onlySystemInstructionsChangeControlState : Obligations.OnlySystemInstructionsChangeControlState := by
  intro i s t _ h
  have k := exec_keeps i s t h
  exact ⟨fun hb => k.ime (decide_eq_false hb), fun hb => k.eiPending (decide_eq_false hb),
    fun hb => k.mode (decide_eq_false hb), k.devices⟩

/-- Settles O18: the footprint of an encoding is what the four lists say. -/
theorem whatEachOpcodeMayWrite : Obligations.WhatEachOpcodeMayWrite := by
  intro i s t _ h
  have k := exec_keeps i s t h
  exact ⟨fun hb => k.pc (decide_eq_false hb), fun hb => k.sp (decide_eq_false hb),
    fun hb hacc hcb => k.flags (decide_eq_false (not_or.2 ⟨hb, not_or.2 ⟨hacc, hcb⟩⟩)),
    fun hb hcb => k.bus (decide_eq_false (not_or.2 ⟨hb, hcb⟩))⟩

end Sys2Proof.Machine
end

section
/-! SUPPORT. The invariant at reset and under a step (spec/10_state.md R57, R58, spec/60_exceptions.md R602). -/

namespace Sys2Proof.Machine

theorem exec_inv {i : Instr} {s t : State} (hs : Inv s) (h : exec i s = .next t) : Inv t :=
  (exec_keeps i s t h).inv hs

theorem applyEi_inv {s : State} (h : Inv s) : Inv s.applyEi := by
  unfold State.applyEi
  split
  · exact { h with }
  · exact h

theorem interruptCheck_inv {s : State} (h : Inv s) : Inv s.interruptCheck.1 := by
  obtain ⟨md, e, -⟩ | ⟨md, k, e, -⟩ := interruptCheck_cases s
  · rw [e]
    exact { h with }
  · rw [e]
    exact service_inv (s := { s with mode := md }) { h with } k

/-- The phases after an instruction or a wait keep the invariant. -/
theorem finishStep_inv {s : State} (h : Inv s) (c : Nat) : Inv (s.finishStep c) := by
  have hcheck := interruptCheck_inv (devicesAdvance_inv h c)
  generalize hr : (s.devicesAdvance c).interruptCheck = r at hcheck
  have hserved : Inv (if 0 < r.2 then r.1.devicesAdvance r.2 else r.1) := by
    split
    · exact devicesAdvance_inv hcheck r.2
    · exact hcheck
  rw [finishStep_eq s c r.1 r.2 hr]
  exact { hserved with }

/-- What a step can do: the phases of `finishStep` follow an instruction of a running core, or a wait. -/
theorem step_cases {s t : State} (h : step s = .next t) :
    (∃ u, exec s.applyEi.fetch s.applyEi.fetched = .next u ∧ t = u.finishStep u.cycles) ∨
    t = s.applyEi.finishStep waitCycles := by
  unfold step State.stepCore at h
  dsimp only at h
  split at h
  · split at h
    · rename_i u hu
      exact .inl ⟨u, hu, (Host.Outcome.next.inj h).symm⟩
    · cases h
    · cases h
  · exact .inr (Host.Outcome.next.inj h).symm

/-- Settles O3: EI's delayed enable, the instruction or the wait, and the phases after it each keep the invariant. -/
theorem stepKeepsInvariant : Obligations.StepKeepsInvariant := by
  intro s t hs h
  have h1 : Inv s.applyEi := applyEi_inv hs
  obtain ⟨u, hu, rfl⟩ | rfl := step_cases h
  · have hfetched : Inv s.applyEi.fetched := { h1 with }
    exact finishStep_inv (exec_inv hfetched hu) u.cycles
  · exact finishStep_inv h1 waitCycles

/-- An address whose entry in the power-on table is 0x00, or that has none, reads 0x00 at reset. -/
theorem resetByte_eq_zero {k : Nat} (h : ∀ p ∈ powerOnTable, p.1 = k → p.2 = 0x00) : resetByte k = 0x00 := by
  unfold resetByte
  split
  · rfl
  · cases hk : powerOnTable.lookup k with
    | none => rfl
    | some v =>
      obtain ⟨l, r, e, -⟩ := List.lookup_eq_some_iff.1 hk
      exact h (k, v) (by simp [e]) rfl

/-- Settles O1: the fields by evaluation; the bytes beside the listed ones by the power-on table, whose other entries are 0x00. -/
theorem resetState : Obligations.ResetState := by
  refine ⟨fun cart joy periph params => ?_, _, _, _, _, rfl⟩
  refine ⟨⟨rfl, rfl, rfl, rfl, rfl, rfl, rfl, rfl⟩, ⟨rfl, rfl, rfl, rfl, rfl, rfl⟩, ⟨rfl, rfl⟩, ⟨?_, ?_⟩, rfl⟩
  · show ∀ p ∈ (_ : List (Nat × Byte)), resetByte p.1 = p.2
    decide
  · rintro k - hk
    apply resetByte_eq_zero
    rintro p hp rfl
    by_contra hne
    apply hk
    clear hk
    revert p
    decide

theorem reset_inv : Inv State.reset where
  mem_wf := reset_mem_wf
  mem_owned := nofun
  cart_valid := by decide
  flags_low := by decide
  div_eq := by decide
  countdown_pos := by decide
  countdown_le := by decide

/-- Settles O2: reset meets each clause, and beside the cartridge's they look only at what every power-on has in common. -/
theorem resetKeepsInvariant : Obligations.ResetKeepsInvariant :=
  ⟨fun _ _ _ _ hvalid => { reset_inv with cart_valid := hvalid }, reset_inv⟩

end Sys2Proof.Machine
end

section
/-! SUPPORT. The memory bus (spec/20_memory.md): which addresses a region holds, what a read and a write do in each region, and OAM
DMA as 160 writes whose sources no earlier one of them has changed. -/

namespace Sys2Proof.Machine

/-! ### The map -/

theorem regionBounds_disjoint {r q : Region} (h : r ≠ q) :
    (regionBounds r).2 < (regionBounds q).1 ∨ (regionBounds q).2 < (regionBounds r).1 := by
  revert h
  cases r <;> cases q <;> decide

/-- A region holds the addresses within its bounds, and no others. -/
theorem classify_iff {a : Word} {r : Region} :
    classifyAddress a = r ↔ (regionBounds r).1 ≤ a.toNat ∧ a.toNat ≤ (regionBounds r).2 := by
  refine ⟨classify_bounds, fun h => ?_⟩
  by_contra hne
  have hb := classify_bounds (a := a) rfl
  have := regionBounds_disjoint hne
  omega

/-- Settles O20: each clause is the bounds of one region. -/
theorem addressRegions : Obligations.AddressRegions := fun _ =>
  ⟨classify_iff.trans (and_iff_right (Nat.zero_le _)), classify_iff, classify_iff, classify_iff, classify_iff, classify_iff,
    classify_iff, classify_iff, classify_iff, classify_iff, classify_iff,
    classify_iff.trans (by simp only [regionBounds]; omega)⟩

theorem classify_io {a : Word} (h0 : 0xFF00 ≤ a.toNat) (h1 : a.toNat ≤ 0xFF7F) : classifyAddress a = .io :=
  classify_iff.2 ⟨h0, h1⟩

theorem classify_rom {a : Word} (h : a.toNat ≤ 0x7FFF) : classifyAddress a = .rom0 ∨ classifyAddress a = .romx := by
  simp only [classify_iff, regionBounds]
  omega

/-- Beside its own address, a byte of plain memory is named by its echo alone (R75). -/
theorem ramKey_eq_some {x : Word} {k : Nat} (h : ramKey x = some k) :
    x.toNat = k ∨ (classifyAddress x = .echo ∧ x.toNat = k + 0x2000) := by
  unfold ramKey at h
  cases hx : classifyAddress x <;> simp only [hx, Option.some.injEq, reduceCtorEq] at h
  case echo =>
    have hb := classify_iff.1 hx
    simp only [regionBounds] at hb
    exact .inr ⟨rfl, by omega⟩
  all_goals exact .inl h

theorem mayChange_ram {s : State} {a x : Word} {k : Nat} (h : ramKey a = some k) :
    mayChange s a x ↔ ramKey x = some k := by
  rw [← h]
  unfold ramKey at h
  unfold mayChange
  cases ha : classifyAddress a <;> simp only [ha, reduceCtorEq] at h ⊢

/-! ### The cartridge, the gap and the I/O block -/

theorem readByte_romAddress (s : State) {a : Word} (h : a.toNat ≤ 0x7FFF) : s.readByte a = s.cart.readROM a := by
  unfold State.readByte
  obtain hc | hc := classify_rom h <;> rw [hc]

theorem writeByte_romAddress (s : State) {a : Word} (v : Byte) (h : a.toNat ≤ 0x7FFF) :
    s.writeByte a v = { s with cart := s.cart.handleBankingWrite a v } := by
  unfold State.writeByte State.writeOutsideIO
  obtain hc | hc := classify_rom h <;> rw [hc] <;> rfl

theorem readByte_eram (s : State) {a : Word} (h : classifyAddress a = .eram) : s.readByte a = s.cart.readRAM a := by
  rw [State.readByte, h]

theorem writeByte_eram (s : State) {a : Word} (v : Byte) (h : classifyAddress a = .eram) :
    s.writeByte a v = { s with cart := s.cart.writeRAM a v } := by
  rw [State.writeByte, State.writeOutsideIO, h]
  rfl

theorem readByte_unused (s : State) {a : Word} (h : classifyAddress a = .unused) :
    s.readByte a = s.params.gapReadValue := by
  rw [State.readByte, h]

theorem writeByte_unused (s : State) {a : Word} (v : Byte) (h : classifyAddress a = .unused) : s.writeByte a v = s := by
  rw [State.writeByte, State.writeOutsideIO, h]
  rfl

theorem readByte_io (s : State) {a : Word} (h : classifyAddress a = .io) : s.readByte a = s.ioRead a := by
  rw [State.readByte, h]

theorem writeByte_io (s : State) {a : Word} (v : Byte) (h : classifyAddress a = .io) : s.writeByte a v = s.ioWrite a v :=
  if_pos h

section
variable {c : Cart} (h : c.kind = .romOnly)
include h

theorem readROM_romOnly (a : Word) : c.readROM a = Memory.read c.rom a.toNat := by rw [Cart.readROM, h]

theorem readRAM_romOnly (a : Word) : c.readRAM a = 0xFF := by rw [Cart.readRAM, h]

theorem receive_romOnly (w : CartWrite) : c.receive w = c := by rw [Cart.receive, h]

end

/-- Settles O22: the rule of each region, and the ROM-only cartridge's answers. -/
theorem cartridgeAndGap : Obligations.CartridgeAndGap := by
  refine ⟨fun s a v h => ⟨readByte_romAddress s h, writeByte_romAddress s v h, writeByte_rom s a v⟩, fun s a v h0 h1 => ?_,
    fun s a v h0 h1 => ?_, fun c a v h => ⟨readROM_romOnly h a, readRAM_romOnly h a, receive_romOnly h _, receive_romOnly h _⟩⟩
  · have hc : classifyAddress a = .eram := classify_iff.2 ⟨h0, h1⟩
    exact ⟨readByte_eram s hc, writeByte_eram s v hc⟩
  · have hc : classifyAddress a = .unused := classify_iff.2 ⟨h0, h1⟩
    exact ⟨readByte_unused s hc, writeByte_unused s v hc⟩

/-- Settles O23: the three branches of `ioRead`; the invariant's clause on DIV makes the counter's high byte the stored one. -/
theorem ioReads : Obligations.IoReads := by
  intro s
  refine ⟨rfl, fun v hv => ?_, rfl, fun hinv => hinv.div_eq.symm, fun a h0 h1 hp1 hdiv => ?_⟩
  · show (s.joy.lookup (s.cell 0xFF00)).getD _ = v
    rw [hv]
    rfl
  · simp only [BitVec.toNat_ne, BitVec.reduceToNat] at hp1 hdiv
    rw [readByte_io s (classify_io h0 h1), State.ioRead, if_neg hp1, if_neg hdiv]

theorem rate_cases : ∀ r : BitVec 2, r = 0#2 ∨ r = 1#2 ∨ r = 2#2 ∨ r = 3#2 := by decide

theorem writeByte_dma (s : State) (v : Byte) : s.writeByte 0xFF46 v = (s.setCell 0xFF46 v).oamDma v := by
  rw [writeByte_io s v rfl, State.ioWrite, if_neg (by decide), if_neg (by decide), if_neg (by decide), if_neg (by decide),
    if_pos (by decide)]

/-- Settles O24: the branches of `ioWrite`; `period` takes the four rates of TAC one by one. -/
theorem ioWrites : Obligations.IoWrites := by
  refine ⟨fun s k v => ⟨fun k' => cell_setCell s k k' v, rfl⟩, fun s v => ⟨rfl, rfl, ?_, rfl, writeByte_dma s v, fun a h0 h1 ha => ?_⟩⟩
  · show ({ s.setCell 0xFF07 v with countdown := (period (v.extractLsb' 0 2) : Int) } : State) = _
    obtain h | h | h | h := rate_cases (v.extractLsb' 0 2) <;> rw [h] <;> rfl
  · simp only [List.mem_cons, List.not_mem_nil, or_false, not_or, ← BitVec.toNat_inj, BitVec.reduceToNat] at ha
    obtain ⟨hp1, hdiv, htac, hly, hdma⟩ := ha
    rw [writeByte_io s v (classify_io h0 h1), State.ioWrite, if_neg hp1, if_neg hdiv, if_neg htac, if_neg hly, if_neg hdma]

/-- Settles O26: the two branches of `forceWrite`, and the bits of IF after one is set. -/
theorem privilegedWrites : Obligations.PrivilegedWrites := by
  refine ⟨fun s a v h0 h1 => forceWrite_io s a v (classify_io h0 h1), fun s a v h => if_neg fun hc => h (io_bounds hc),
    fun s k hk => ⟨fun j hj => ?_, fun x hx => ?_, rfl⟩⟩
  · have hk8 : k < 8 := by omega
    rw [State.requestInterrupt, cell_setCell, if_pos rfl, BitVec.getLsbD_or, ← BitVec.twoPow_eq, BitVec.getLsbD_twoPow,
      decide_eq_true hk8, Bool.true_and]
    exact congrArg ((s.cell 0xFF0F).getLsbD j || ·) (decide_eq_decide.2 eq_comm)
  · rw [State.requestInterrupt, cell_setCell, if_neg hx]

/-- Settles O27: both word accesses are the two byte accesses by definition; the address after `a` wraps. -/
theorem wordAccess : Obligations.WordAccess := by
  intro s a w
  have hnext : BitVec.ofNat 16 (a.toNat + 1) = a + 1 := by simp [BitVec.ofNat_add]
  rw [hnext]
  exact ⟨rfl, rfl, rfl⟩

/-! ### Plain memory -/

/-- A byte written to plain memory is what every address that names it reads. -/
theorem readByte_writeByte_ram {a x : Word} {k : Nat} (ha : ramKey a = some k) (hx : ramKey x = some k) (s : State) (v : Byte) :
    (s.writeByte a v).readByte x = v := by
  rw [writeByte_ram s a v k ha, readByte_ram _ x k hx, cell_setCell, if_pos rfl]

theorem ramKey_of_mem {a : Word} (h : classifyAddress a ∈ [Region.vram, .wram0, .wramx, .oam, .hram, .ie]) :
    ramKey a = some a.toNat := by
  unfold ramKey
  revert h
  cases classifyAddress a <;> simp

section
variable {a : Word} (h : classifyAddress a = .echo)
include h

theorem echo_sub_toNat : (a - 0x2000).toNat = a.toNat - 0x2000 := by
  obtain ⟨hlo, -⟩ := classify_iff.1 h
  exact BitVec.toNat_sub_of_le (BitVec.le_def.2 (le_trans (by decide : (0x2000 : Word).toNat ≤ 0xE000) hlo))

theorem ramKey_echo : ramKey a = some (a.toNat - 0x2000) := by rw [ramKey, h]

/-- An echo address names the byte that the address 0x2000 below it names (R75). -/
theorem ramKey_echo_sub : ramKey (a - 0x2000) = some (a.toNat - 0x2000) := by
  have hb := classify_iff.1 h
  simp only [regionBounds] at hb
  rw [← echo_sub_toNat h]
  apply ramKey_of_mem
  have hw : classifyAddress (a - 0x2000) = .wram0 ∨ classifyAddress (a - 0x2000) = .wramx := by
    simp only [classify_iff, regionBounds, echo_sub_toNat h]
    omega
  obtain hw | hw := hw <;> rw [hw] <;> decide

end

/-- Settles O21: the byte that an address names, the frame of a write, and the shared name of an echo and its source. -/
theorem plainMemoryAndEcho : Obligations.PlainMemoryAndEcho := by
  refine ⟨fun s a v h => ?_, fun s a v h => ?_⟩
  · have ha := ramKey_of_mem h
    refine ⟨readByte_writeByte_ram ha ha s v, ?_, fun x hne hecho => writeByte_frame s a x v ?_⟩
    · rw [writeByte_ram s a v _ ha]
      rfl
    · rw [mayChange_ram ha]
      intro hx
      obtain he | he := ramKey_eq_some hx
      · exact hne (BitVec.eq_of_toNat_eq he)
      · exact hecho he
  · have ha := ramKey_echo h
    have hb := ramKey_echo_sub h
    have hbounds := classify_iff.1 h
    simp only [regionBounds] at hbounds
    rw [echo_sub_toNat h]
    exact ⟨by omega, by omega, by rw [readByte_ram s _ _ ha, readByte_ram s _ _ hb],
      by rw [writeByte_ram s _ v _ ha, writeByte_ram s _ v _ hb], readByte_writeByte_ram ha hb s v⟩

/-! ### OAM DMA -/

theorem oamTarget_toNat {i : Nat} (hi : i < 160) : (BitVec.ofNat 16 (0xFE00 + i)).toNat = 0xFE00 + i := by
  rw [BitVec.toNat_ofNat]
  exact Nat.mod_eq_of_lt (by omega)

theorem classify_oamTarget {i : Nat} (hi : i < 160) : classifyAddress (BitVec.ofNat 16 (0xFE00 + i)) = .oam := by
  simp only [classify_iff, regionBounds, oamTarget_toNat hi]
  omega

theorem ramKey_oamTarget {i : Nat} (hi : i < 160) : ramKey (BitVec.ofNat 16 (0xFE00 + i)) = some (0xFE00 + i) := by
  rw [ramKey, classify_oamTarget hi, oamTarget_toNat hi]

/-- One byte of a DMA changes no read but that of its target, which has no echo. -/
theorem oamDmaByte_readByte (s : State) (page : Byte) {i : Nat} (hi : i < 160) {x : Word} (hx : x.toNat ≠ 0xFE00 + i) :
    (s.oamDmaByte page i).readByte x = s.readByte x := by
  have hwrite : s.oamDmaByte page i =
      s.writeByte (BitVec.ofNat 16 (0xFE00 + i)) (s.readByte (BitVec.ofNat 16 (page.toNat * 256 + i))) := by
    rw [State.writeByte, if_neg (by rw [classify_oamTarget hi]; decide), State.oamDmaByte]
  rw [hwrite]
  apply writeByte_frame
  rw [mayChange_ram (ramKey_oamTarget hi)]
  intro hk
  obtain he | ⟨-, he⟩ := ramKey_eq_some hk
  · exact hx he
  · have := x.isLt
    omega

theorem oamDmaByte_cell (s : State) (page : Byte) {i : Nat} (hi : i < 160) :
    (s.oamDmaByte page i).cell (0xFE00 + i) = s.readByte (BitVec.ofNat 16 (page.toNat * 256 + i)) := by
  rw [State.oamDmaByte, State.writeOutsideIO, classify_oamTarget hi]
  dsimp only
  rw [oamTarget_toNat hi, cell_setCell, if_pos rfl]

/-- A DMA changes no read outside OAM (R89). -/
theorem oamDmaFrom_readByte (s : State) (page : Byte) (i n : Nat) (hn : i + n ≤ 160) {x : Word} (hx : classifyAddress x ≠ .oam) :
    (s.oamDmaFrom page i n).readByte x = s.readByte x := by
  have hne (j : Nat) (hj : j < 160) : x.toNat ≠ 0xFE00 + j := by
    intro he
    exact hx (classify_iff.2 (by simp only [regionBounds]; omega))
  induction n generalizing s i with
  | zero => rfl
  | succ n ih => rw [State.oamDmaFrom, ih _ _ (by omega), oamDmaByte_readByte s page (by omega) (hne i (by omega))]

/-- The source of a later byte is no target of an earlier one: a page other than 0xFE lies outside OAM, and 0xFE copies each byte onto
itself (R89). -/
theorem oamSource_ne_target (page : Byte) {i j : Nat} (hij : i < j) (hj : j < 160) :
    (BitVec.ofNat 16 (page.toNat * 256 + j)).toNat ≠ 0xFE00 + i := by
  have := page.isLt
  rw [BitVec.toNat_ofNat]
  omega

/-- Every byte copied is the one that the source held before the DMA (R88). -/
theorem oamDmaFrom_target (s : State) (page : Byte) (i n : Nat) (hn : i + n ≤ 160) {j : Nat} (hij : i ≤ j) (hj : j < i + n) :
    (s.oamDmaFrom page i n).cell (0xFE00 + j) = s.readByte (BitVec.ofNat 16 (page.toNat * 256 + j)) := by
  induction n generalizing s i with
  | zero => omega
  | succ n ih =>
    rw [State.oamDmaFrom]
    obtain rfl | hlt := Nat.eq_or_lt_of_le hij
    · rw [oamDmaFrom_cell _ page (i + 1) n (0xFE00 + i) (by omega) (by omega), oamDmaByte_cell s page (by omega)]
    · rw [ih _ (i + 1) (by omega) hlt (by omega), oamDmaByte_readByte s page (by omega) (oamSource_ne_target page hlt (by omega))]

/-- Settles O25: the copy's targets, its frame outside OAM, and that it changes memory alone. -/
theorem oamDmaCopies160Bytes : Obligations.OamDmaCopies160Bytes := by
  intro s v
  dsimp only
  rw [writeByte_dma, State.oamDma]
  refine ⟨fun i hi => ?_, fun x hx => ?_, ?_⟩
  · rw [readByte_ram _ _ _ (ramKey_oamTarget hi)]
    exact oamDmaFrom_target _ v 0 160 (by omega) (by omega) (by omega)
  · exact oamDmaFrom_readByte _ v 0 160 (by omega) hx
  · exact oamDmaFrom_mem (s.setCell 0xFF46 v) v 0 160 (by omega)

end Sys2Proof.Machine
end

section
/-! SUPPORT. What a step leaves of the cartridge and of the parameters: a CPU write reaches only the writes that a cartridge has
received, and no other operation reaches the cartridge (spec/20_memory.md R76, R90, R91). -/

namespace Sys2Proof.Machine

/-- From `s` to `t` no ROM byte changes, nor the kind of the cartridge, nor a parameter. -/
structure KeepsRom (s t : State) : Prop where
  rom : t.cart.rom = s.cart.rom
  kind : t.cart.kind = s.cart.kind
  params : t.params = s.params

/-- A meaning's answer, if it is a next state, keeps the ROM and the parameters. -/
def ResultKeepsRom (s : State) (r : Result) : Prop := ∀ t, r = .next t → KeepsRom s t

section
variable {s t u : State}

theorem KeepsRom.refl : KeepsRom s s := ⟨rfl, rfl, rfl⟩

theorem KeepsRom.trans (h : KeepsRom s t) (h' : KeepsRom t u) : KeepsRom s u :=
  ⟨h'.rom.trans h.rom, h'.kind.trans h.kind, h'.params.trans h.params⟩

/-! ### The operations that reach the cartridge, and those that follow them -/

theorem writeByte_keepsRom (s : State) (a : Word) (v : Byte) : KeepsRom s (s.writeByte a v) :=
  ⟨writeByte_rom s a v, writeByte_kind s a v, writeByte_params s a v⟩

theorem writeWord_keepsRom (s : State) (a w : Word) : KeepsRom s (s.writeWord a w) :=
  (writeByte_keepsRom s _ _).trans (writeByte_keepsRom _ _ _)

theorem KeepsRom.spend (k : KeepsRom s t) (n : Nat) : KeepsRom s (t.spend n) := { k with }

theorem KeepsRom.setF (k : KeepsRom s t) (v : Byte) : KeepsRom s (t.setF v) := { k with }

theorem KeepsRom.setHL (k : KeepsRom s t) (w : Word) : KeepsRom s (t.setHL w) := { k with }

theorem KeepsRom.jump (k : KeepsRom s t) (w : Word) : KeepsRom s (t.jump w) := { k with }

theorem push16_keepsRom (s : State) (w : Word) : KeepsRom s (s.push16 w) :=
  ⟨push16_rom s w, push16_kind s w, push16_params s w⟩

theorem call_keepsRom (s : State) (w : Word) : KeepsRom s (s.call w) := (push16_keepsRom s s.pc).jump w

/-! ### The instructions -/

theorem ResultKeepsRom.next (k : KeepsRom s t) : ResultKeepsRom s (.next t) := by
  rintro _ ⟨⟩
  exact k

/-- A meaning that does not store leaves the cartridge as it is. -/
theorem ResultKeepsRom.of_keeps {fp : Footprint} {r : Result} (k : ResultKeeps fp s r) (hst : fp.stores = false) :
    ResultKeepsRom s r := by
  intro t ht
  obtain ⟨-, hcart, -⟩ := (k t ht).bus hst
  obtain ⟨-, -, hparams, -⟩ := (k t ht).devices
  exact ⟨by rw [hcart], by rw [hcart], hparams⟩

theorem rotMem_keepsRom (op : RotOp) : ResultKeepsRom s (rotMem op s) :=
  .next (((writeByte_keepsRom s _ _).setF _).spend 16)

theorem resMem_keepsRom (b : BitVec 3) : ResultKeepsRom s (resMem b s) :=
  .next ((writeByte_keepsRom s _ _).spend 16)

theorem setMem_keepsRom (b : BitVec 3) : ResultKeepsRom s (setMem b s) :=
  .next ((writeByte_keepsRom s _ _).spend 16)

theorem callCond_keepsRom (cc : Cond) (nn : Word) : ResultKeepsRom s (callCond cc nn s) := by
  unfold callCond branch
  split
  · exact .next ((call_keepsRom s nn).spend 24)
  · exact .next (KeepsRom.refl.spend 12)

/-- Of the CB table, only the rows at `(HL)` but BIT store. -/
theorem runCB_keepsRom (op2 : Byte) : ResultKeepsRom s (runCB op2 s) := by
  by_cases hst : (footprint (.cbPrefix op2)).stores = false
  · exact .of_keeps (runCB_keeps op2 s) hst
  · have hstores : (0xCB : Byte) ∈ storingOpcodes ∨
        ((0xCB : Byte) = 0xCB ∧ op2.extractLsb' 0 3 = 6#3 ∧ op2.extractLsb' 6 2 ≠ 1#2) :=
      of_decide_eq_true (Bool.eq_true_of_not_eq_false hst)
    obtain ⟨-, hz, hx⟩ := hstores.resolve_left (by decide)
    have hnone : reg8Of (op2.extractLsb' 0 3) = none := by rw [hz]; rfl
    unfold runCB
    rw [hnone]
    dsimp only
    split
    · exact rotMem_keepsRom _
    rw [if_neg (show ¬ op2.extractLsb' 6 2 = 1 from hx)]
    split
    · exact resMem_keepsRom _
    · exact setMem_keepsRom _

theorem exec_keepsRom_of_not_stores (i : Instr) (hst : (footprint i).stores = false) : ResultKeepsRom s (exec i s) :=
  .of_keeps (exec_keeps i s) hst

/-- Every instruction keeps the ROM and the parameters: those that store do it by CPU writes, and the footprint of the others
leaves the cartridge. -/
theorem exec_keepsRom (i : Instr) (s : State) : ResultKeepsRom s (exec i s) := by
  cases i
  case ld_mHL_B | ld_mHL_C | ld_mHL_D | ld_mHL_E | ld_mHL_H | ld_mHL_L | ld_mHL_A | ld_mHL_n | ldh_mn_A | ld_mnn_A
      | ld_mBC_A | ld_mDE_A | ldh_mC_A => exact .next ((writeByte_keepsRom s _ _).spend _)
  case ld_mHLI_A | ld_mHLD_A => exact .next (((writeByte_keepsRom s _ _).setHL _).spend 8)
  case inc_mHL | dec_mHL => exact .next (((writeByte_keepsRom s _ _).setF _).spend 12)
  case ld_mnn_SP => exact .next ((writeWord_keepsRom s _ _).spend 20)
  case push_BC | push_DE | push_HL | push_AF => exact .next ((push16_keepsRom s _).spend 16)
  case call_nn | rst_00H | rst_08H | rst_10H | rst_18H | rst_20H | rst_28H | rst_30H | rst_38H =>
    exact .next ((call_keepsRom s _).spend _)
  case call_NZ_nn | call_Z_nn | call_NC_nn | call_C_nn => exact callCond_keepsRom _ _
  case rlc_mHL | rrc_mHL | rl_mHL | rr_mHL | sla_mHL | sra_mHL | swap_mHL | srl_mHL => exact rotMem_keepsRom _
  case res_0_mHL | res_1_mHL | res_2_mHL | res_3_mHL | res_4_mHL | res_5_mHL | res_6_mHL | res_7_mHL =>
    exact resMem_keepsRom _
  case set_0_mHL | set_1_mHL | set_2_mHL | set_3_mHL | set_4_mHL | set_5_mHL | set_6_mHL | set_7_mHL =>
    exact setMem_keepsRom _
  case cbPrefix => exact runCB_keepsRom _
  case undefined op => exact .of_keeps (execUndefined_keeps (fp := footprint .nop) op) rfl
  all_goals exact exec_keepsRom_of_not_stores _ rfl

/-! ### The phases of a step -/

theorem applyEi_keepsRom (s : State) : KeepsRom s s.applyEi := by
  unfold State.applyEi
  split
  · exact { KeepsRom.refl with }
  · exact .refl

theorem devicesAdvance_keepsRom (s : State) (c : Nat) : KeepsRom s (s.devicesAdvance c) := by
  obtain ⟨_, _, _, _, e⟩ := devicesAdvance_only s c
  rw [e]
  exact { KeepsRom.refl with }

theorem service_keepsRom (s : State) (k : InterruptSource) : KeepsRom s (s.service k) := by
  obtain ⟨_, _, _, _, e, hrom, hkind⟩ := service_only s k
  rw [e]
  exact ⟨hrom, hkind, rfl⟩

theorem interruptCheck_keepsRom (s : State) : KeepsRom s s.interruptCheck.1 := by
  obtain ⟨md, e, -⟩ | ⟨md, k, e, -⟩ := interruptCheck_cases s
  · rw [e]
    exact { KeepsRom.refl with }
  · rw [e]
    exact { service_keepsRom { s with mode := md } k with }

theorem finishStep_keepsRom (s : State) (c : Nat) : KeepsRom s (s.finishStep c) := by
  have hcheck := (devicesAdvance_keepsRom s c).trans (interruptCheck_keepsRom _)
  generalize hr : (s.devicesAdvance c).interruptCheck = r at hcheck
  have hserved : KeepsRom s (if 0 < r.2 then r.1.devicesAdvance r.2 else r.1) := by
    split
    · exact hcheck.trans (devicesAdvance_keepsRom r.1 r.2)
    · exact hcheck
  rw [finishStep_eq s c r.1 r.2 hr]
  exact { hserved with }

theorem step_keepsRom (h : step s = .next t) : KeepsRom s t := by
  have hei := applyEi_keepsRom s
  obtain ⟨u, hu, rfl⟩ | rfl := step_cases h
  · have hexec : KeepsRom s.applyEi u := { exec_keepsRom _ _ u hu with }
    exact (hei.trans hexec).trans (finishStep_keepsRom u u.cycles)
  · exact hei.trans (finishStep_keepsRom s.applyEi waitCycles)

end

/-- Settles O16: every phase keeps the ROM and the parameters, and reads of the gap and of a ROM-only cartridge depend on them alone. -/
theorem stepKeepsRomAndParameters : Obligations.StepKeepsRomAndParameters := by
  intro s t h
  have k := step_keepsRom h
  refine ⟨k.rom, k.kind, k.params, fun a h0 h1 => ?_, fun hkind a ha => ?_⟩
  · have hgap : classifyAddress a = .unused := classify_iff.2 ⟨h0, h1⟩
    rw [readByte_unused t hgap, readByte_unused s hgap, k.params]
  · have hrom : a.toNat ≤ 0x7FFF := Nat.le_of_lt_succ ha
    rw [readByte_romAddress t hrom, readByte_romAddress s hrom, readROM_romOnly (k.kind.trans hkind), readROM_romOnly hkind, k.rom]

end Sys2Proof.Machine
end

section
/-! SUPPORT. The decoder and the encoder (spec/30_encoding.md): what an entry of the primary table makes of the bytes after its
opcode, the CB table read flat and by fields, the fetch of a step, and the register operands that the fields name. -/

namespace Sys2Proof

/-- What holds of the 256 numerals holds of every byte. -/
theorem forall_byte {p : Byte → Prop} (h : ∀ n < 256, p (BitVec.ofNat 8 n)) (op : Byte) : p op := by
  simpa using h op.toNat op.isLt

/-! ### What the entries of the tables are -/

/-- The instructions that an entry makes are well-formed, and their encoding is the opcode with the operand bytes of the entry's
format (30_encoding.md R130, R137). -/
inductive Entry.Encodes (op : Byte) : Entry → Prop
  | op {i : Instr} : encode i = [op] → wellFormed i = true → Encodes op (.op i)
  | imm8 {f : Byte → Instr} : (∀ n, encode (f n) = [op, n]) → (∀ n, wellFormed (f n) = true) → Encodes op (.imm8 f)
  | imm16 {f : Word → Instr} : (∀ nn, encode (f nn) = encodeWord op nn) → (∀ nn, wellFormed (f nn) = true) →
      Encodes op (.imm16 f)
  | cb : op = 0xCB → Encodes op .cb

/-- The primary table is the encoder's (R138). Each of the 256 entries fits the one rule of its format, and `encode` and
`wellFormed` of its instruction evaluate. -/
theorem primaryEntry_encodes (op : Byte) : (primaryEntry op).Encodes op := by
  refine forall_byte (p := fun op => (primaryEntry op).Encodes op) (fun n hn => ?_) op
  interval_cases n
  all_goals constructor <;> intros <;> rfl

theorem encode_cbEntry (op2 : Byte) : encode (cbEntry op2) = [0xCB, op2] := by
  revert op2
  decide

theorem wellFormed_cbEntry (op2 : Byte) : wellFormed (cbEntry op2) = true := by
  revert op2
  decide

theorem Entry.Encodes.encode_build {op : Byte} {e : Entry} (h : e.Encodes op) (b1 b2 : Byte) :
    encode (e.build b1 b2) = op :: [b1, b2].take e.operandBytes := by
  cases h with
  | op henc _ => exact henc
  | imm8 henc _ => exact henc b1
  | imm16 henc _ => simp [Entry.build, Entry.operandBytes, henc, encodeWord]
  | cb hop => rw [hop]; exact encode_cbEntry b1

theorem Entry.Encodes.wellFormed_build {op : Byte} {e : Entry} (h : e.Encodes op) (b1 b2 : Byte) :
    wellFormed (e.build b1 b2) = true := by
  cases h with
  | op _ hwf => exact hwf
  | imm8 _ hwf => exact hwf b1
  | imm16 _ hwf => exact hwf _
  | cb _ => exact wellFormed_cbEntry b1

theorem primaryEntry_undefined {op : Byte} (h : op ∈ undefinedOpcodes) : primaryEntry op = .op (.undefined op) := by
  revert op
  simp only [undefinedOpcodes, List.forall_mem_cons]
  exact ⟨rfl, rfl, rfl, rfl, rfl, rfl, rfl, rfl, rfl, rfl, rfl, nofun⟩

theorem Entry.operandBytes_le (e : Entry) : e.operandBytes ≤ 2 := by
  cases e <;> simp [Entry.operandBytes]

/-- An entry looks at its own operand bytes alone. -/
theorem Entry.build_congr {e : Entry} {b1 b1' b2 b2' : Byte} (h1 : 1 ≤ e.operandBytes → b1 = b1')
    (h2 : 2 ≤ e.operandBytes → b2 = b2') : e.build b1 b2 = e.build b1' b2' := by
  cases e with
  | op i => rfl
  | imm8 f => rw [h1 le_rfl]; rfl
  | imm16 f => rw [h1 one_le_two, h2 le_rfl]
  | cb => rw [h1 le_rfl]; rfl

/-! ### The instruction at the front of three bytes -/

/-- The encoding of a decoded instruction is its opcode with as many of the bytes after it as its entry takes. -/
theorem encode_decode3 (b0 b1 b2 : Byte) :
    encode (decode3 b0 b1 b2) = b0 :: [b1, b2].take (primaryEntry b0).operandBytes :=
  (primaryEntry_encodes b0).encode_build b1 b2

theorem wellFormed_decode3 (b0 b1 b2 : Byte) : wellFormed (decode3 b0 b1 b2) = true :=
  (primaryEntry_encodes b0).wellFormed_build b1 b2

theorem length_encode_decode3 (b0 b1 b2 : Byte) : (encode (decode3 b0 b1 b2)).length = instrLength b0 := by
  have hle := (primaryEntry b0).operandBytes_le
  simp only [encode_decode3, instrLength, List.length_cons, List.length_take, List.length_nil]
  omega

/-! ### The instruction at the front of a list of bytes -/

theorem decode_cons_of_le {op : Byte} {xs : List Byte} (h : (primaryEntry op).operandBytes ≤ xs.length) :
    decode (op :: xs) = .ok (decode3 op (xs.getD 0 0) (xs.getD 1 0), xs.drop (primaryEntry op).operandBytes) :=
  if_neg (Nat.not_lt.2 h)

theorem decode_cons_of_lt {op : Byte} {xs : List Byte} (h : xs.length < (primaryEntry op).operandBytes) :
    decode (op :: xs) = .error (.truncated op) :=
  if_pos h

/-- What the decoder accepts, and what it answers. -/
theorem decode_eq_ok {bytes rest : List Byte} {i : Instr} (h : decode bytes = .ok (i, rest)) :
    ∃ op xs, bytes = op :: xs ∧ (primaryEntry op).operandBytes ≤ xs.length ∧
      i = decode3 op (xs.getD 0 0) (xs.getD 1 0) ∧ rest = xs.drop (primaryEntry op).operandBytes := by
  cases bytes with
  | nil => cases h
  | cons op xs =>
    by_cases hlen : (primaryEntry op).operandBytes ≤ xs.length
    · rw [decode_cons_of_le hlen] at h
      cases h
      exact ⟨op, xs, rfl, hlen, rfl, rfl⟩
    · rw [decode_cons_of_lt (Nat.not_le.1 hlen)] at h
      cases h

/-- The bytes of an instruction decode to it, whatever bytes follow. -/
theorem decode_append {op : Byte} {xs : List Byte} {i : Instr} (hlen : xs.length = (primaryEntry op).operandBytes)
    (hi : decode3 op (xs.getD 0 0) (xs.getD 1 0) = i) (rest : List Byte) : decode (op :: xs ++ rest) = .ok (i, rest) := by
  have hle : (primaryEntry op).operandBytes ≤ (xs ++ rest).length := by simp [← hlen]
  have hbuild : decode3 op ((xs ++ rest).getD 0 0) ((xs ++ rest).getD 1 0) = i := by
    rw [← hi]
    exact Entry.build_congr (fun h => List.getD_append _ _ _ _ (hlen ▸ h)) (fun h => List.getD_append _ _ _ _ (hlen ▸ h))
  rw [List.cons_append, decode_cons_of_le hle, hbuild, ← hlen, List.drop_left]

theorem decode_op {op : Byte} {i : Instr} (h : primaryEntry op = .op i) (rest : List Byte) :
    decode ([op] ++ rest) = .ok (i, rest) :=
  decode_append (by rw [h]; rfl) (by rw [decode3, h]; rfl) rest

theorem decode_encodeWord {op : Byte} {f : Word → Instr} (h : primaryEntry op = .imm16 f) (nn : Word) (rest : List Byte) :
    decode (encodeWord op nn ++ rest) = .ok (f nn, rest) :=
  decode_append (by rw [h]; rfl) (by rw [decode3, h]; exact congrArg f (Machine.ofBytes_hi_lo nn)) rest

/-- The decoder undoes the encoder. Where the operand is no word, the entry that the opcode selects builds the instruction back
from the encoding by evaluation. -/
theorem decode_encode {i : Instr} (hwf : wellFormed i = true) (rest : List Byte) :
    decode (encode i ++ rest) = .ok (i, rest) := by
  cases i
  case undefined op => exact decode_op (primaryEntry_undefined (List.contains_iff_mem.1 hwf)) rest
  case cbPrefix => cases hwf
  case ld_BC_nn nn | ld_DE_nn nn | ld_HL_nn nn | ld_SP_nn nn | ld_mnn_SP nn | ld_mnn_A nn | ld_A_mnn nn | jp_nn nn
      | jp_NZ_nn nn | jp_Z_nn nn | jp_NC_nn nn | jp_C_nn nn | call_nn nn | call_NZ_nn nn | call_Z_nn nn
      | call_NC_nn nn | call_C_nn nn => exact decode_encodeWord rfl nn rest
  all_goals exact decode_append rfl rfl rest

/-- The operand bytes that `decode3` is given, with the bytes after them, are the list that they were taken from. -/
theorem take_getD_append_drop {k : Nat} {xs : List Byte} (hk : k ≤ 2) (hlen : k ≤ xs.length) :
    [xs.getD 0 0, xs.getD 1 0].take k ++ xs.drop k = xs := by
  match k, xs with
  | 0, xs => rfl
  | 1, x :: xs => rfl
  | 2, x :: y :: xs => rfl

/-- Settles O4, constructor by constructor in `decode_encode`. -/
theorem decodeEncodeRoundTrip : Obligations.DecodeEncodeRoundTrip := fun _ rest hwf => decode_encode hwf rest

/-- Settles O5: the decoder accepts what has enough bytes, and the encoding of its answer gives back those it took. -/
theorem decodedBytesAreAnEncoding : Obligations.DecodedBytesAreAnEncoding := by
  intro bytes rest i h
  obtain ⟨op, xs, rfl, hlen, rfl, rfl⟩ := decode_eq_ok h
  refine ⟨wellFormed_decode3 _ _ _, ?_⟩
  rw [encode_decode3, List.cons_append, take_getD_append_drop (Entry.operandBytes_le _) hlen]

/-- Settles O6: the list of lengths by evaluation at each opcode, the rest by the two branches of the decoder. -/
theorem opcodeFixesTheLength : Obligations.OpcodeFixesTheLength := by
  refine ⟨by decide, fun op bytes => ?_⟩
  have hdef : instrLength op = 1 + (primaryEntry op).operandBytes := rfl
  refine ⟨fun hlen => ⟨decode3 op (bytes.getD 0 0) (bytes.getD 1 0), ?_⟩, fun hlen => decode_cons_of_lt (by omega)⟩
  rw [hdef, Nat.add_sub_cancel_left]
  exact decode_cons_of_le (by omega)

/-- Settles O7 by evaluation: each is a closed word. -/
theorem specWordsDecode : Obligations.SpecWordsDecode :=
  ⟨rfl, rfl, rfl, rfl, rfl, rfl, rfl, rfl, rfl, rfl, rfl, rfl⟩

/-- The opcodes without an instruction decode to `undefined`, and nothing else does: the encoding names the opcode, and the
instruction is well-formed. -/
theorem decode3_eq_undefined_iff {b0 b1 b2 op : Byte} :
    decode3 b0 b1 b2 = .undefined op ↔ b0 = op ∧ op ∈ undefinedOpcodes := by
  constructor
  · intro h
    have henc := encode_decode3 b0 b1 b2
    have hwf := wellFormed_decode3 b0 b1 b2
    rw [h] at henc hwf
    obtain ⟨hop, -⟩ := List.cons.inj henc
    exact ⟨hop.symm, List.contains_iff_mem.1 hwf⟩
  · rintro ⟨rfl, hop⟩
    rw [decode3, primaryEntry_undefined hop]
    rfl

end Sys2Proof

namespace Sys2Proof.Machine

/-! ### The undefined opcodes -/

theorem execUndefined_of_nop {s : State} (op : Byte) (h : s.params.illegalOpcodePolicy = .nop) :
    execUndefined op s = .next (s.spend 4) := by
  rw [execUndefined, h]

theorem execUndefined_of_stuck {s : State} (op : Byte) (h : s.params.illegalOpcodePolicy = .stuck) :
    execUndefined op s = .fault (.stuckOnUndefinedOpcode op) := by
  rw [execUndefined, h]

/-- Settles O8. The name `undefinedOpcodes` is the model's list of them. -/
theorem undefinedOpcodes_spec : Obligations.UndefinedOpcodes := by
  refine ⟨fun _ _ _ _ => decode3_eq_undefined_iff, fun op hop => ?_, fun op _ hnop => execUndefined_of_nop op hnop,
    fun op _ hstuck => execUndefined_of_stuck op hstuck⟩
  rw [instrLength, primaryEntry_undefined hop]
  rfl

/-! ### The CB table -/

/-- The fields of each of the 256 bytes select the meaning of the instruction that the flat table lists for it (R132, R139). -/
theorem runCB_eq_exec (op2 : Byte) (s : State) : runCB op2 s = exec (cbEntry op2) s := by
  refine forall_byte (p := fun op2 => runCB op2 s = exec (cbEntry op2) s) (fun n hn => ?_) op2
  interval_cases n
  all_goals rfl

theorem runCB_next (op2 : Byte) (s : State) : ∃ t, runCB op2 s = .next t := by
  unfold runCB
  cases reg8Of (op2.extractLsb' 0 3) with
  | some r => dsimp only; split_ifs <;> exact ⟨_, rfl⟩
  | none => dsimp only; split_ifs <;> exact ⟨_, rfl⟩

/-- Settles O9: `cbPrefix` runs the fields, and what follows 0xCB decodes to the flat table's entry. -/
theorem cbTableFlatAndByFieldsAgree : Obligations.CbTableFlatAndByFieldsAgree :=
  fun op2 _ s => ⟨runCB_eq_exec op2 s, runCB_next op2 s⟩

/-! ### The fetch of a step -/

@[simp] theorem applyEi_readByte (s : State) (a : Word) : s.applyEi.readByte a = s.readByte a := by
  unfold State.applyEi
  split
  · exact readByte_congr (s := s) rfl rfl rfl rfl rfl a
  · rfl

@[simp] theorem applyEi_pc (s : State) : s.applyEi.pc = s.pc := by
  unfold State.applyEi
  split <;> rfl

@[simp] theorem applyEi_mode (s : State) : s.applyEi.mode = s.mode := by
  unfold State.applyEi
  split <;> rfl

theorem fetchLength_eq (s : State) : s.fetchLength = (encode s.fetch).length :=
  (length_encode_decode3 _ _ _).symm

theorem fetched_eq (s : State) :
    s.fetched = { s with pc := s.pc + BitVec.ofNat 16 (encode s.fetch).length, cycles := 0 } := by
  rw [State.fetched, fetchLength_eq]

/-- If the decoder accepts the first `n` bytes at pc, it answers what the fetch reads (R131). -/
theorem fetch_eq_of_decode {s : State} {n : Nat} {i : Instr} {rest : List Byte}
    (h : decode ((List.range n).map (fun j => s.readByte (s.pc + BitVec.ofNat 16 j))) = .ok (i, rest)) : s.fetch = i := by
  obtain ⟨op, xs, hbytes, hlen, rfl, -⟩ := decode_eq_ok h
  cases n with
  | zero => cases hbytes
  | succ n =>
    rw [List.range_succ_eq_map, List.map_cons, List.map_map] at hbytes
    obtain ⟨hop, rfl⟩ := List.cons.inj hbytes
    rw [List.length_map, List.length_range] at hlen
    have hfirst : s.readByte s.pc = op := by simpa using hop
    rw [State.fetch, hfirst]
    exact Entry.build_congr (fun h1 => by simp [List.getD, show 0 < n by omega])
      (fun h2 => by simp [List.getD, show 1 < n by omega])

/-- Settles O10: a delayed EI changes neither pc nor what a read answers, so the step fetches the decoded instruction. -/
theorem stepRunsDecodedInstruction : Obligations.StepRunsDecodedInstruction := by
  intro s n i rest hmode hdec
  have hfetch : s.applyEi.fetch = i := by
    apply fetch_eq_of_decode (n := n) (rest := rest)
    simpa only [applyEi_pc, applyEi_readByte] using hdec
  have hrun : s.applyEi.mode = .running := (applyEi_mode s).trans hmode
  rw [step, State.stepCore]
  dsimp only
  rw [if_pos hrun, State.execute, fetched_eq, hfetch, applyEi_pc]
  rfl

/-! ### Registers -/

theorem ofBytes_and (x y x' y' : Byte) :
    Word.ofBytes x y &&& Word.ofBytes x' y' = Word.ofBytes (x &&& x') (y &&& y') := BitVec.and_append

/-- Clearing bits 3 to 0 of the low half clears them in the word. -/
theorem ofBytes_hi_maskedLo (w : Word) : Word.ofBytes (Word.hi w) (Word.lo w &&& 0xF0) = w &&& 0xFFF0 := by
  have hhi : Word.hi w &&& 0xFF = Word.hi w := BitVec.and_allOnes
  calc Word.ofBytes (Word.hi w) (Word.lo w &&& 0xF0)
    _ = Word.ofBytes (Word.hi w &&& 0xFF) (Word.lo w &&& 0xF0) := by rw [hhi]
    _ = Word.ofBytes (Word.hi w) (Word.lo w) &&& Word.ofBytes 0xFF 0xF0 := (ofBytes_and _ _ _ _).symm
    _ = w &&& 0xFFF0 := by rw [ofBytes_hi_lo]; rfl

theorem flagByte_low (z n h c : Bool) : flagByte z n h c &&& 0x0F = 0 := by
  rw [← flagByte_mask, BitVec.and_assoc]
  exact BitVec.and_zero

/-- Settles O19: the codes by evaluation, the pairs and flags by the laws of the register updates. -/
theorem registerOperands : Obligations.RegisterOperands := by
  refine ⟨by decide, by decide, by decide, by decide, fun s r q v => ?_, fun s w => ?_, fun s => ?_, fun z n h c => ?_,
    fun _ _ => rfl⟩
  · exact ⟨⟨rfl, rfl, rfl, rfl, rfl, rfl, rfl⟩, ⟨rfl, rfl, rfl, rfl, rfl, rfl, rfl⟩, r8_setR8 s r q v⟩
  · have hstk (p : RegStk) : (s.setRstk p w).rstk p = if p = .af then w &&& 0xFFF0 else w := by
      rw [rstk_setRstk, ofBytes_hi_maskedLo]
    exact ⟨⟨rfl, rfl, rfl, rfl, rfl⟩, ⟨rfl, rfl, rfl, rfl⟩, fun p => r16_setR16 s p w, hstk, ⟨rfl, rfl, rfl, rfl⟩⟩
  · exact ⟨rfl, rfl, rfl, rfl⟩
  · exact ⟨flagZ_flagByte z n h c, flagN_flagByte z n h c, flagH_flagByte z n h c, flagC_flagByte z n h c,
      flagByte_low z n h c⟩

end Sys2Proof.Machine
end

section
/-! SUPPORT. The 8-bit loads (spec/40_load8.md): what one bus write answers and leaves readable, and the meanings that the bytes
of the register forms decode to. -/

namespace Sys2Proof.Machine

/-! ### Counting the cycles -/

theorem setR8_spend (s : State) (r : Reg8) (v : Byte) (n : Nat) :
    (s.setR8 r v).spend n = { s.setR8 r v with cycles := s.cycles + n } := by
  rw [State.spend, setR8_cycles]

theorem writeByte_spend (s : State) (a : Word) (v : Byte) (n : Nat) :
    (s.writeByte a v).spend n = { s.writeByte a v with cycles := s.cycles + n } := by
  rw [State.spend, writeByte_cycles]

/-! ### One bus write -/

/-- An answer whose bus is that of the state after one write reads as before wherever that write may change nothing. What the
answer holds beside the bus does not matter. -/
theorem exists_next_readsSameBut {s t : State} {r : Result} {a : Word} {v : Byte} (hr : r = .next t)
    (hm : t.mem = (s.writeByte a v).mem) (hc : t.cart = (s.writeByte a v).cart)
    (hs : t.sysCounter = (s.writeByte a v).sysCounter) (hj : t.joy = (s.writeByte a v).joy)
    (hp : t.params = (s.writeByte a v).params) :
    ∃ u, r = .next u ∧ u = t ∧ readsSameBut s u a :=
  ⟨t, hr, rfl, fun x hx => (readByte_congr hm hc hs hj hp x).trans (writeByte_frame s a x v hx)⟩

/-- The answer of every store that steps no register. -/
theorem next_writeByte_spend (s : State) (a : Word) (v : Byte) (n : Nat) :
    ∃ t, (.next ((s.writeByte a v).spend n) : Result) = .next t ∧
      t = { s.writeByte a v with cycles := s.cycles + n } ∧ readsSameBut s t a :=
  exists_next_readsSameBut (v := v) (congrArg _ (writeByte_spend s a v n)) rfl rfl rfl rfl rfl

/-- The answer of a store that then replaces HL, as LD (HL+),A and LD (HL-),A do. -/
theorem next_writeByte_setHL_spend (s : State) (a w : Word) (v : Byte) (n : Nat) :
    ∃ t, (.next (((s.writeByte a v).setHL w).spend n) : Result) = .next t ∧
      t = { (s.writeByte a v).setR16 .hl w with cycles := s.cycles + n } ∧ readsSameBut s t a := by
  refine exists_next_readsSameBut (v := v) ?_ rfl rfl rfl rfl rfl
  rw [State.spend, setHL_cycles, writeByte_cycles]
  rfl

/-! ### The register forms: the fields of the opcode select the registers (30_encoding.md R133) -/

section
variable (s : State) (r q : Reg8) (b1 b2 : Byte)

theorem exec_ld_r_r : exec (decode3 (0b01#2 ++ r.code ++ q.code) b1 b2) s = ldRegReg r q s := by
  cases r <;> cases q <;> rfl

theorem exec_ld_r_n : exec (decode3 (0b00#2 ++ r.code ++ 0b110#3) b1 b2) s = ldRegImm r b1 s := by
  cases r <;> rfl

theorem exec_ld_r_mHL : exec (decode3 (0b01#2 ++ r.code ++ 0b110#3) b1 b2) s = ldRegMem r s := by
  cases r <;> rfl

theorem exec_ld_mHL_r : exec (decode3 (0b01110#5 ++ r.code) b1 b2) s = stMemReg r s := by
  cases r <;> rfl

end

/-! ### The obligations -/

/-- Settles O28: the three forms are `setR8` of the byte read, and the cycles counted. -/
theorem loadRegister : Obligations.LoadRegister := by
  intro s dst src b1 b2
  rw [exec_ld_r_r, exec_ld_r_n, exec_ld_r_mHL, ldRegReg, ldRegImm, ldRegMem, setR8_spend, setR8_spend, setR8_spend]
  exact ⟨rfl, rfl, rfl⟩

/-- Settles O29: both forms are one write at HL. -/
theorem storeAtHL : Obligations.StoreAtHL := by
  intro s r b1 b2
  rw [exec_ld_mHL_r]
  exact ⟨next_writeByte_spend s s.hl (s.r8 r) 8, next_writeByte_spend s s.hl b1 12⟩

/-- Settles O30: each opcode decodes to the load from its address; that of the two LDH forms is `highPage`. -/
theorem loadAccumulatorFromMemory : Obligations.LoadAccumulatorFromMemory := by
  intro s b1 b2
  rw [← highPage_eq, ← highPage_eq]
  exact ⟨rfl, rfl, rfl, rfl, rfl, rfl, rfl⟩

/-- Settles O31: five forms are one write, the two at HL a write and then the step of HL. -/
theorem storeAccumulatorToMemory : Obligations.StoreAccumulatorToMemory := by
  intro s b1 b2 hl
  rw [← highPage_eq, ← highPage_eq]
  exact ⟨next_writeByte_spend s s.bc s.a 8, next_writeByte_spend s s.de s.a 8,
    next_writeByte_spend s (Word.ofBytes b2 b1) s.a 16, next_writeByte_spend s (highPage s.c) s.a 8,
    next_writeByte_spend s (highPage b1) s.a 12, next_writeByte_setHL_spend s s.hl (s.hl + 1) s.a 8,
    next_writeByte_setHL_spend s s.hl (s.hl - 1) s.a 8⟩

end Sys2Proof.Machine
end

section
/-! SUPPORT. The 16-bit loads and the stack (spec/41_load16.md): two bus writes and what they leave readable, the stack in plain
memory, and SP plus a signed offset. -/

namespace Sys2Proof.Machine

/-! ### Two bus writes -/

/-- After two writes, whatever SP and the cycle count become, an address that neither may change reads as before. -/
theorem readByte_writeByte2 {s : State} {a b x : Word} (ha : ¬ mayChange s a x) (hb : ¬ mayChange s b x) (v w : Byte)
    (sp : Word) (n : Nat) :
    ({ (s.writeByte a v).writeByte b w with sp := sp, cycles := n } : State).readByte x = s.readByte x :=
  (readByte_congr rfl rfl rfl rfl rfl x).trans (writeByte_frame2 s a b x v w ha hb)

theorem writeWord_spend (s : State) (a w : Word) (n : Nat) : (s.writeWord a w).spend n =
    { (s.writeByte a (Word.lo w)).writeByte (a + 1) (Word.hi w) with cycles := s.cycles + n } := by
  rw [State.spend, writeWord_cycles, State.writeWord]

theorem push16_spend (s : State) (w : Word) (n : Nat) : (s.push16 w).spend n =
    { (s.writeByte (s.sp - 1) (Word.hi w)).writeByte (s.sp - 2) (Word.lo w) with
      sp := s.sp - 2, cycles := s.cycles + n } := by
  rw [State.spend, push16_cycles, push16_eq]

/-! ### Replacing a pair -/

theorem setR16_spend (s : State) (p : Reg16) (w : Word) (n : Nat) :
    (s.setR16 p w).spend n = { s.setR16 p w with cycles := s.cycles + n } := by
  rw [State.spend, setR16_cycles]

theorem setRstk_pop16_spend (s : State) (p : RegStk) (w : Word) (n : Nat) :
    (s.pop16.setRstk p w).spend n = { s.setRstk p w with sp := s.sp + 2, cycles := s.cycles + n } := by
  cases p <;> rfl

/-- A byte whose low nibble is 0 passes whole through a write of F. -/
theorem and_highNibble {f : Byte} (h : f &&& 0x0F = 0) : f &&& 0xF0 = f := by
  calc f &&& 0xF0
    _ = (f &&& 0xF0) ||| (f &&& 0x0F) := by rw [h]; exact BitVec.or_zero.symm
    _ = f &&& (0xF0 ||| 0x0F) := BitVec.and_or_distrib_left.symm
    _ = f := BitVec.and_allOnes

/-- Writing back the value that a pair holds changes nothing, whatever became of memory and the cycle count; for AF that needs a low
nibble of F that a write of F keeps (R264). -/
theorem setRstk_rstk {s : State} (hf : s.f &&& 0x0F = 0) (p : RegStk) (m : Memory) (n : Nat) :
    ({ s with mem := m, cycles := n } : State).setRstk p (s.rstk p) = { s with mem := m, cycles := n } := by
  cases p
  case af => rw [State.setRstk, State.rstk, State.af, hi_ofBytes, lo_ofBytes, State.setF, and_highNibble hf]
  all_goals simp [State.setRstk, State.rstk, State.bc, State.de, State.hl, State.setHL]

/-! ### The stack in plain memory -/

/-- Neighbouring addresses never name the same byte of plain memory: an echo lies 0x2000 above its source (R75). -/
theorem ramKey_add_one_ne {a : Word} {k : Nat} (h : ramKey a = some k) : ramKey (a + 1) ≠ some k := by
  intro h'
  have ha := ramKey_eq_some h
  have ha' := ramKey_eq_some h'
  bv_omega

theorem popped_spend (s : State) (n : Nat) : (s.spend n).popped = s.popped :=
  congrArg₂ Word.ofBytes (readByte_congr rfl rfl rfl rfl rfl _) (readByte_congr rfl rfl rfl rfl rfl _)

section
variable {s : State} {j k : Nat} (hj : ramKey (s.sp - 1) = some j) (hk : ramKey (s.sp - 2) = some k)
include hj hk

theorem push16_ram (w : Word) :
    s.push16 w = { (s.setCell j (Word.hi w)).setCell k (Word.lo w) with sp := s.sp - 2 } := by
  rw [push16_eq, writeByte_ram _ _ _ _ hj, writeByte_ram _ _ _ _ hk]

/-- A push to plain memory, with SP raised again, changes memory alone. -/
theorem pop16_push16 (w : Word) : (s.push16 w).pop16 = { s with mem := (s.push16 w).mem } := by
  rw [State.pop16, push16_sp, BitVec.sub_add_cancel, push16_ram hj hk]
  rfl

/-- The word pushed to plain memory is the word on top of the stack: the second write leaves the first one's byte. -/
theorem popped_push16 (w : Word) : (s.push16 w).popped = w := by
  have hnext : s.sp - 2 + 1 = s.sp - 1 := by bv_omega
  have hjk : j ≠ k := fun e => ramKey_add_one_ne hk (by rw [hnext, hj, e])
  rw [State.popped, push16_sp, hnext, readByte_ram _ _ _ hj, readByte_ram _ _ _ hk, push16_ram hj hk]
  show Word.ofBytes (State.cell (State.setCell _ k _) j) (State.cell (State.setCell _ k _) k) = w
  rw [cell_setCell, cell_setCell, cell_setCell, if_neg hjk, if_pos rfl, if_pos rfl, ofBytes_hi_lo]

/-- A pair popped on top of its own push is as it was, and so is every register. -/
theorem popPair_push16_spend (hf : s.f &&& 0x0F = 0) (p : RegStk) (n : Nat) :
    popPair p ((s.push16 (s.rstk p)).spend n) =
      .next { s with mem := (s.push16 (s.rstk p)).mem, cycles := s.cycles + n + 12 } := by
  have hpop : ((s.push16 (s.rstk p)).spend n).pop16 = { s with mem := (s.push16 (s.rstk p)).mem, cycles := s.cycles + n } :=
    congrArg (State.spend · n) (pop16_push16 hj hk (s.rstk p))
  rw [popPair, popped_spend, popped_push16 hj hk, hpop, setRstk_rstk hf]
  rfl

end

/-! ### SP plus a signed offset -/

/-- The sign-extended offset counts as the integer that the byte stands for (00_scope.md R14). -/
theorem add_sext (w : Word) (e : Byte) : w + sext e = BitVec.ofInt 16 (w.toNat + e.toInt) := by
  rw [BitVec.ofInt_add, BitVec.ofInt_natCast, BitVec.ofNat_toNat, BitVec.setWidth_eq]
  rfl

theorem setF_flagByte (s : State) (z n h c : Bool) : s.setF (flagByte z n h c) = { s with f := flagByte z n h c } := by
  rw [State.setF, flagByte_mask]

/-! ### The register forms: the field of the opcode selects the pair (30_encoding.md R134, R135) -/

section
variable (s : State) (b1 b2 : Byte)

theorem exec_ld_rr_nn (p : Reg16) :
    exec (decode3 (0b00#2 ++ p.code ++ 0b0001#4) b1 b2) s = ldPairImm p (Word.ofBytes b2 b1) s := by
  cases p <;> rfl

theorem exec_push (p : RegStk) : exec (decode3 (0b11#2 ++ p.code ++ 0b0101#4) b1 b2) s = pushPair p s := by
  cases p <;> rfl

theorem exec_pop (p : RegStk) : exec (decode3 (0b11#2 ++ p.code ++ 0b0001#4) b1 b2) s = popPair p s := by
  cases p <;> rfl

end

/-! ### The obligations -/

/-- Settles O32: a pair and SP are replaced whole, and LD (nn),SP is the two writes of `writeWord`. -/
theorem loadPairs : Obligations.LoadPairs := by
  intro s p b1 b2
  rw [exec_ld_rr_nn, ldPairImm, setR16_spend]
  exact ⟨rfl, rfl, _, congrArg Host.Outcome.next (writeWord_spend s (Word.ofBytes b2 b1) s.sp 20), rfl,
    fun x ha hb => readByte_writeByte2 ha hb _ _ _ _⟩

/-- Settles O33: PUSH is the two writes of `push16`, POP the register update after the two reads. -/
theorem pushAndPop : Obligations.PushAndPop := by
  intro s p b1 b2
  rw [exec_push, exec_pop, pushPair, popPair, push16_spend, setRstk_pop16_spend]
  exact ⟨⟨_, rfl, rfl, fun x ha hb => readByte_writeByte2 ha hb _ _ _ _⟩, rfl⟩

/-- Settles O34: POP finds the pushed word on top of the stack and writes it back to the pair that held it. -/
theorem pushThenPopRestores : Obligations.PushThenPopRestores := by
  intro s p b1 b2 hhi hlo hf
  obtain ⟨j, hj⟩ := Option.ne_none_iff_exists'.1 hhi
  obtain ⟨k, hk⟩ := Option.ne_none_iff_exists'.1 hlo
  exact ⟨_, _, exec_push s b1 b2 p, (exec_pop _ b1 b2 p).trans (popPair_push16_spend hj hk hf p 16), rfl⟩

/-- Settles O35: both take the sum, H and C from `spAdd`. -/
theorem stackPointerPlusOffset : Obligations.StackPointerPlusOffset := by
  intro s e b2 sum f
  have hsum : s.sp + sext e = sum := add_sext s.sp e
  constructor
  · show (.next (({ s with sp := s.sp + sext e }.setF f).spend 16) : Result) = _
    rw [setF_flagByte, hsum]
    rfl
  · show (.next (((s.setHL (s.sp + sext e)).setF f).spend 12) : Result) = _
    rw [setF_flagByte, hsum]
    rfl

end Sys2Proof.Machine
end

section
/-! SUPPORT. The 8-bit arithmetic and logic (spec/42_alu8.md): the meanings that the bytes of the three operand forms decode to,
what each operation leaves in A and F, and DAA as the correction of two decimal digits. -/

namespace Sys2Proof.Machine

/-! ### The operand forms: the fields of the opcode select the operation and the register (R304, 30_encoding.md R133) -/

section
variable (s : State) (op : AluOp) (r : Reg8) (b1 b2 : Byte)

theorem exec_alu_r : exec (decode3 ((0b10#2 ++ op.code : BitVec 5) ++ r.code) b1 b2) s = aluReg op r s := by
  cases op <;> cases r <;> rfl

theorem exec_inc_r : exec (decode3 (0b00#2 ++ r.code ++ 0b100#3) b1 b2) s = incReg r s := by
  cases r <;> rfl

theorem exec_dec_r : exec (decode3 (0b00#2 ++ r.code ++ 0b101#3) b1 b2) s = decReg r s := by
  cases r <;> rfl

end

/-! ### Writing a result and its flags -/

theorem setF_flagByte_spend (s : State) (z n h c : Bool) (cost : Nat) :
    (s.setF (flagByte z n h c)).spend cost = { s with f := flagByte z n h c, cycles := s.cycles + cost } := by
  rw [setF_flagByte]
  rfl

theorem setF_flags_spend (s : State) (o : Alu8) (cost : Nat) :
    (s.setF o.flags).spend cost = { s with f := o.flags, cycles := s.cycles + cost } :=
  setF_flagByte_spend s o.z o.n o.h o.c cost

theorem setR8_setF_flags_spend (s : State) (r : Reg8) (v : Byte) (o : Alu8) (cost : Nat) :
    ((s.setR8 r v).setF o.flags).spend cost = { s.setR8 r v with f := o.flags, cycles := s.cycles + cost } := by
  rw [setF_flags_spend, setR8_cycles]

/-- The answer of INC (HL) and DEC (HL): one write, and then the flags. -/
theorem next_writeByte_setF_flags_spend (s : State) (a : Word) (v : Byte) (o : Alu8) (cost : Nat) :
    ∃ t, (.next (((s.writeByte a v).setF o.flags).spend cost) : Result) = .next t ∧
      t = { s.writeByte a v with f := o.flags, cycles := s.cycles + cost } ∧ readsSameBut s t a := by
  refine exists_next_readsSameBut (v := v) ?_ rfl rfl rfl rfl rfl
  rw [setF_flags_spend, writeByte_cycles]

/-- Every accumulator operation but CP puts its result in A and its flags in F. -/
theorem aluAcc_next {op : AluOp} (hop : op ≠ .cp) (b : Byte) (cost : Nat) (s : State) :
    aluAcc op b cost s = .next { s with
      a := (op.apply s.a b (flagC s.f)).res, f := (op.apply s.a b (flagC s.f)).flags, cycles := s.cycles + cost } := by
  rw [aluAcc, if_neg hop, setF_flags_spend]

/-- CP writes the flags of the subtraction alone. -/
theorem aluAcc_cp_next (b : Byte) (cost : Nat) (s : State) :
    aluAcc .cp b cost s = .next { s with f := (sub8 s.a b false).flags, cycles := s.cycles + cost } := by
  rw [aluAcc, if_pos rfl, setF_flags_spend]
  rfl

/-! ### The flags of a result -/

theorem ofNat_eq_zero_iff (t : Nat) : BitVec.ofNat 8 t = 0 ↔ t % 256 = 0 := by
  rw [← BitVec.toNat_inj, BitVec.toNat_ofNat]
  rfl

theorem natCast_toNat_ofInt (t : Int) : ((BitVec.ofInt 8 t).toNat : Int) = t % 256 := by
  rw [BitVec.toNat_ofInt]
  exact Int.toNat_of_nonneg (Int.emod_nonneg t (by decide))

theorem ofInt_eq_zero_iff (t : Int) : BitVec.ofInt 8 t = 0 ↔ t % 256 = 0 := by
  rw [← BitVec.toNat_inj, ← Int.natCast_inj, natCast_toNat_ofInt]
  rfl

theorem add8_flags (a b : Byte) (cin : Bool) :
    (add8 a b cin).flags = flagByte (decide ((a.toNat + b.toNat + cin.toNat) % 256 = 0)) false
      (decide (a.toNat % 16 + b.toNat % 16 + cin.toNat > 0xF)) (decide (a.toNat + b.toNat + cin.toNat > 0xFF)) := by
  rw [← decide_eq_decide.2 (ofNat_eq_zero_iff _)]
  rfl

theorem sub8_flags (a b : Byte) (cin : Bool) :
    (sub8 a b cin).flags = flagByte (decide (((a.toNat : Int) - b.toNat - cin.toNat) % 256 = 0)) true
      (decide (a.toNat % 16 < b.toNat % 16 + cin.toNat)) (decide (a.toNat < b.toNat + cin.toNat)) := by
  have hborrow : (a.toNat : Int) - b.toNat - cin.toNat < 0 ↔ a.toNat < b.toNat + cin.toNat := by omega
  rw [← decide_eq_decide.2 (ofInt_eq_zero_iff _), ← decide_eq_decide.2 hborrow]
  rfl

theorem lowNibble_eq_iff (v : Byte) (k : Nat) (hk : k < 16) : v &&& 0x0F = BitVec.ofNat 8 k ↔ v.toNat % 16 = k := by
  have hmask : (v &&& 0x0F).toNat = v.toNat % 16 := Nat.and_two_pow_sub_one_eq_mod v.toNat 4
  rw [← BitVec.toNat_inj, hmask, BitVec.toNat_ofNat]
  omega

theorem inc8_flags (v : Byte) (carry : Bool) : (inc8 v carry).flags =
    flagByte (decide (v.toNat = 0xFF)) false (decide (v.toNat % 16 = 0xF)) carry := by
  have hzero : v + 1 = 0 ↔ v.toNat = 0xFF := by bv_omega
  rw [← decide_eq_decide.2 hzero, ← decide_eq_decide.2 (lowNibble_eq_iff v 0xF (by decide))]
  rfl

theorem dec8_flags (v : Byte) (carry : Bool) : (dec8 v carry).flags =
    flagByte (decide (v.toNat = 0x01)) true (decide (v.toNat % 16 = 0x0)) carry := by
  have hzero : v - 1 = 0 ↔ v.toNat = 0x01 := by bv_omega
  rw [← decide_eq_decide.2 hzero, ← decide_eq_decide.2 (lowNibble_eq_iff v 0x0 (by decide))]
  rfl

/-- The ones' complement of a byte is what is missing to 255 (R351). -/
theorem not_eq_ofNat (v : Byte) : ~~~v = BitVec.ofNat 8 (255 - v.toNat) := by
  rw [← BitVec.toNat_inj, BitVec.toNat_not, BitVec.toNat_ofNat]
  omega

/-! ### DAA: the correction and its two halves (R350) -/

/-- Whether DAA corrects the high digit, which is also the carry it leaves. -/
def daaHigh (a : Byte) (n c : Bool) : Bool := c || (!n && decide (a.toNat > 0x99))

/-- Whether DAA corrects the low digit. -/
def daaLow (a : Byte) (n h : Bool) : Bool := h || (!n && decide (a.toNat % 16 > 9))

/-- What DAA adds after an addition and subtracts after a subtraction. -/
def daaAmount (a : Byte) (n h c : Bool) : Int :=
  (if daaHigh a n c then 0x60 else 0) + (if daaLow a n h then 0x06 else 0)

/-- After a subtraction each digit is corrected by its borrow alone. -/
theorem daaHigh_sub (a : Byte) (c : Bool) : daaHigh a true c = c := Bool.or_false c

theorem daaLow_sub (a : Byte) (h : Bool) : daaLow a true h = h := Bool.or_false h

theorem daaAdjust_eq (a : Byte) (n h c : Bool) : daaAdjust a n h c =
    (if n then a.toNat - daaAmount a n h c else a.toNat + daaAmount a n h c, daaHigh a n c) := by
  cases n
  case false => simp [daaAdjust, daaAmount, daaHigh, daaLow, Int.add_assoc]
  case true => simp [daaAdjust, daaAmount, daaHigh, daaLow, Int.sub_sub]

theorem exec_daa (s : State) : exec .daa s = .next { s with
    a := (daa s.a (flagN s.f) (flagH s.f) (flagC s.f)).res
    f := (daa s.a (flagN s.f) (flagH s.f) (flagC s.f)).flags
    cycles := s.cycles + 4 } :=
  congrArg Host.Outcome.next (setF_flags_spend _ _ 4)

/-! ### DAA after binary arithmetic on two decimal digits -/

/-- The last two decimal digits of a number, four bits each. -/
def toBcd (n : Nat) : Nat := n % 100 / 10 * 16 + n % 10

theorem toBcd_eq_zero_iff (n : Nat) : toBcd n = 0 ↔ n % 100 = 0 := by
  unfold toBcd
  omega

/-- DAA of a result with the flags that came with it. -/
def Alu8.adjusted (o : Alu8) : Alu8 := daa o.res o.n o.h o.c

/-- An accumulator operation on B and then DAA leave the adjusted result in A and its flags in F. -/
theorem aluReg_then_daa {op : AluOp} (hop : op ≠ .cp) {s : State} {n : Nat} {carry : Bool}
    (hres : (op.apply s.a s.b (flagC s.f)).adjusted.res.toNat = toBcd n)
    (hcarry : (op.apply s.a s.b (flagC s.f)).adjusted.c = carry) :
    ∃ t u, aluReg op .b s = .next t ∧ exec .daa t = .next u ∧
      u.a.toNat = toBcd n ∧ u.f.getLsbD 4 = carry ∧ u.f.getLsbD 7 = decide (n % 100 = 0) := by
  generalize ho : op.apply s.a s.b (flagC s.f) = o at hres hcarry
  have halu : aluReg op .b s = .next { s with a := o.res, f := o.flags, cycles := s.cycles + 4 } := by
    rw [← ho]
    exact aluAcc_next hop s.b 4 s
  have hzero : o.adjusted.res = 0 ↔ n % 100 = 0 := by
    rw [← toBcd_eq_zero_iff, ← hres, ← BitVec.toNat_inj]
    rfl
  have hdaa := exec_daa { s with a := o.res, f := o.flags, cycles := s.cycles + 4 }
  simp only [Alu8.flags, flagN_flagByte, flagH_flagByte, flagC_flagByte] at hdaa
  refine ⟨_, _, halu, hdaa, hres, (flagC_flagByte _ _ _ _).trans hcarry, (flagZ_flagByte _ _ _ _).trans ?_⟩
  exact decide_eq_decide.2 hzero

theorem toNat_add8_res (a b : Byte) (cin : Bool) :
    (add8 a b cin).res.toNat = (a.toNat + b.toNat + cin.toNat) % 256 := BitVec.toNat_ofNat _ 8

theorem natCast_toNat_sub8_res (a b : Byte) (cin : Bool) :
    ((sub8 a b cin).res.toNat : Int) = ((a.toNat : Int) - b.toNat - cin.toNat) % 256 := natCast_toNat_ofInt _

theorem adjusted_c (o : Alu8) : o.adjusted.c = daaHigh o.res o.n o.c := congrArg Prod.snd (daaAdjust_eq _ _ _ _)

theorem natCast_toNat_adjusted_res (o : Alu8) : (o.adjusted.res.toNat : Int) =
    (if o.n then o.res.toNat - daaAmount o.res o.n o.h o.c else o.res.toNat + daaAmount o.res o.n o.h o.c) % 256 := by
  rw [Alu8.adjusted, daa, natCast_toNat_ofInt, daaAdjust_eq]

section
variable {a b : Byte} {x y : Nat} (cin : Bool) (ha : a.toNat = x / 10 * 16 + x % 10) (hb : b.toNat = y / 10 * 16 + y % 10)
include ha hb

/-- After an addition the low digit is corrected just when the low digits reach 10. -/
theorem daaLow_add8 : daaLow (add8 a b cin).res false (add8 a b cin).h = decide (x % 10 + y % 10 + cin.toNat ≥ 10) := by
  have hcin := cin.toNat_le
  have hlow : daaLow (add8 a b cin).res false (add8 a b cin).h =
      (decide (a.toNat % 16 + b.toNat % 16 + cin.toNat > 0xF) ||
        decide ((a.toNat + b.toNat + cin.toNat) % 256 % 16 > 9)) := by
    rw [daaLow, toNat_add8_res]
    rfl
  rw [hlow, ← Bool.decide_or, decide_eq_decide, ha, hb]
  omega

/-- The borrow out of the low nibble is the decimal borrow of the low digits. -/
theorem sub8_h_bcd : (sub8 a b cin).h = decide (x % 10 < y % 10 + cin.toNat) := by
  show decide (a.toNat % 16 < b.toNat % 16 + cin.toNat) = _
  rw [decide_eq_decide, ha, hb]
  omega

theorem sub8_c_bcd : (sub8 a b cin).c = decide (x < y + cin.toNat) := by
  have hcin := cin.toNat_le
  show decide ((a.toNat : Int) - b.toNat - cin.toNat < 0) = _
  rw [decide_eq_decide, ha, hb]
  omega

theorem adjusted_sub8_c : (sub8 a b cin).adjusted.c = decide (x < y + cin.toNat) := sub8_c_bcd cin ha hb

variable (hx : x < 100) (hy : y < 100)
include hx hy

/-- After an addition the high digit is corrected just when the sum reaches 100. -/
theorem daaHigh_add8 : daaHigh (add8 a b cin).res false (add8 a b cin).c = decide (x + y + cin.toNat ≥ 100) := by
  have hcin := cin.toNat_le
  have hhigh : daaHigh (add8 a b cin).res false (add8 a b cin).c =
      (decide (a.toNat + b.toNat + cin.toNat > 0xFF) ||
        decide ((a.toNat + b.toNat + cin.toNat) % 256 > 0x99)) := by
    rw [daaHigh, toNat_add8_res]
    rfl
  rw [hhigh, ← Bool.decide_or, decide_eq_decide, ha, hb]
  omega

theorem adjusted_add8_c : (add8 a b cin).adjusted.c = decide (x + y + cin.toNat ≥ 100) :=
  (adjusted_c _).trans (daaHigh_add8 cin ha hb hx hy)

/-- The decimal sum, by which of the two digits are corrected. -/
theorem adjusted_add8_res : (add8 a b cin).adjusted.res.toNat = toBcd (x + y + cin.toNat) := by
  have hcin := cin.toNat_le
  have hres : ((add8 a b cin).adjusted.res.toNat : Int) = ((add8 a b cin).res.toNat +
      daaAmount (add8 a b cin).res false (add8 a b cin).h (add8 a b cin).c) % 256 := natCast_toNat_adjusted_res _
  rw [toNat_add8_res, ha, hb, daaAmount, daaHigh_add8 cin ha hb hx hy, daaLow_add8 cin ha hb] at hres
  simp only [decide_eq_true_eq] at hres
  rw [toBcd]
  split_ifs at hres <;> omega

/-- The decimal difference, by which of the two digits borrow. -/
theorem adjusted_sub8_res : (sub8 a b cin).adjusted.res.toNat = toBcd (100 + x - y - cin.toNat) := by
  have hcin := cin.toNat_le
  have hres : ((sub8 a b cin).adjusted.res.toNat : Int) = ((sub8 a b cin).res.toNat -
      daaAmount (sub8 a b cin).res true (sub8 a b cin).h (sub8 a b cin).c) % 256 := natCast_toNat_adjusted_res _
  rw [natCast_toNat_sub8_res, ha, hb, daaAmount, daaHigh_sub, daaLow_sub, sub8_c_bcd cin ha hb, sub8_h_bcd cin ha hb] at hres
  simp only [decide_eq_true_eq] at hres
  rw [toBcd]
  split_ifs at hres <;> omega

end

/-! ### The obligations -/

/-- Settles O36: ADD and ADC are the one addition, with the carry in 0 or the old one. -/
theorem addAndAddWithCarry : Obligations.AddAndAddWithCarry := by
  intro s r b1 b2 sum carry
  have hadd (b : Byte) (cost : Nat) : aluAcc .add b cost s = .next (sum b 0 cost) := by
    rw [aluAcc_next (op := .add) nofun, AluOp.apply, add8_flags]
    rfl
  have hadc (b : Byte) (cost : Nat) : aluAcc .adc b cost s = .next (sum b carry cost) := by
    rw [aluAcc_next (op := .adc) nofun, AluOp.apply, add8_flags]
    rfl
  exact ⟨(exec_alu_r s .add r b1 b2).trans (hadd _ 4), hadd _ 8, hadd b1 8,
    (exec_alu_r s .adc r b1 b2).trans (hadc _ 4), hadc _ 8, hadc b1 8⟩

/-- Settles O37: SUB, SBC and CP are the one subtraction; CP keeps A. -/
theorem subtractAndCompare : Obligations.SubtractAndCompare := by
  intro s r b1 b2 flags difference compared carry
  have hsub (b : Byte) (cost : Nat) : aluAcc .sub b cost s = .next (difference b 0 cost) := by
    rw [aluAcc_next (op := .sub) nofun, AluOp.apply, sub8_flags]
    rfl
  have hsbc (b : Byte) (cost : Nat) : aluAcc .sbc b cost s = .next (difference b carry cost) := by
    rw [aluAcc_next (op := .sbc) nofun, AluOp.apply, sub8_flags]
    rfl
  have hcp (b : Byte) (cost : Nat) : aluAcc .cp b cost s = .next (compared b cost) := by
    rw [aluAcc_cp_next, sub8_flags]
    rfl
  exact ⟨(exec_alu_r s .sub r b1 b2).trans (hsub _ 4), hsub _ 8, hsub b1 8,
    (exec_alu_r s .sbc r b1 b2).trans (hsbc _ 4), hsbc _ 8, hsbc b1 8,
    (exec_alu_r s .cp r b1 b2).trans (hcp _ 4), hcp _ 8, hcp b1 8⟩

/-- Settles O38: the result and the four flags are those of the three operations' definitions. -/
theorem bitwiseLogic : Obligations.BitwiseLogic := by
  intro s r b1 b2 out m
  have hand (b : Byte) (cost : Nat) : aluAcc .and b cost s = .next (out (s.a &&& b) true cost) :=
    aluAcc_next (op := .and) nofun b cost s
  have hxor (b : Byte) (cost : Nat) : aluAcc .xor b cost s = .next (out (s.a ^^^ b) false cost) :=
    aluAcc_next (op := .xor) nofun b cost s
  have hor (b : Byte) (cost : Nat) : aluAcc .or b cost s = .next (out (s.a ||| b) false cost) :=
    aluAcc_next (op := .or) nofun b cost s
  exact ⟨(exec_alu_r s .and r b1 b2).trans (hand _ 4), hand _ 8, hand b1 8,
    (exec_alu_r s .xor r b1 b2).trans (hxor _ 4), hxor _ 8, hxor b1 8,
    (exec_alu_r s .or r b1 b2).trans (hor _ 4), hor _ 8, hor b1 8⟩

/-- Settles O39: the register forms are `setR8` and the flags, the forms at HL one write and the flags. -/
theorem incrementAndDecrementByte : Obligations.IncrementAndDecrementByte := by
  intro s r b1 b2 carry incF decF hl m
  have hinc (v : Byte) : (inc8 v carry).flags = incF v := inc8_flags v carry
  have hdec (v : Byte) : (dec8 v carry).flags = decF v := dec8_flags v carry
  rw [exec_inc_r, exec_dec_r, incReg, decReg, setR8_setF_flags_spend, setR8_setF_flags_spend, ← hinc, ← hdec, ← hinc,
    ← hdec]
  exact ⟨rfl, rfl, next_writeByte_setF_flags_spend s hl (m + 1) (inc8 m carry) 12,
    next_writeByte_setF_flags_spend s hl (m - 1) (dec8 m carry) 12⟩

/-- Settles O40: the table's two cases by N are the one correction. -/
theorem decimalAdjust : Obligations.DecimalAdjust := by
  intro s b1 b2 n h c high low adjust res
  have hdaa : daa s.a n h c = ⟨res, decide (res = 0), n, false, high⟩ := by
    rw [daa, daaAdjust_eq]
    rfl
  refine (exec_daa s).trans ?_
  show Host.Outcome.next { s with a := (daa s.a n h c).res, f := (daa s.a n h c).flags, cycles := s.cycles + 4 } = _
  rw [hdaa]
  rfl

/-- Settles O41: the decimal sum and difference, digit by digit, in `adjusted_add8_res` and `adjusted_sub8_res`. -/
theorem decimalAdjustCorrectsBcd : Obligations.DecimalAdjustCorrectsBcd := by
  intro s x y hx hy ha hb carry
  exact ⟨aluReg_then_daa (op := .adc) nofun (adjusted_add8_res _ ha hb hx hy) (adjusted_add8_c _ ha hb hx hy),
    aluReg_then_daa (op := .sbc) nofun (adjusted_sub8_res _ ha hb hx hy) (adjusted_sub8_c _ ha hb)⟩

/-- Settles O42: the three are a write of F, and CPL's of A the complement. -/
theorem complementAndCarryFlag : Obligations.ComplementAndCarryFlag := by
  intro s b1 b2 z c
  rw [← not_eq_ofNat]
  exact ⟨congrArg Host.Outcome.next (setF_flagByte_spend _ z true true c 4),
    congrArg Host.Outcome.next (setF_flagByte_spend s z false false true 4),
    congrArg Host.Outcome.next (setF_flagByte_spend s z false false (!c) 4)⟩

end Sys2Proof.Machine
end

section
/-! SUPPORT. The 16-bit arithmetic (spec/43_alu16.md): the meanings that the bytes of the pair forms decode to, and their results on
natural numbers. -/

namespace Sys2Proof.Machine

/-! ### The pair forms: the field of the opcode selects the pair (30_encoding.md R134) -/

section
variable (s : State) (p : Reg16) (b1 b2 : Byte)

theorem exec_add_hl_rr : exec (decode3 (0b00#2 ++ p.code ++ 0b1001#4) b1 b2) s = addHL p s := by
  cases p <;> rfl

theorem exec_inc_rr : exec (decode3 (0b00#2 ++ p.code ++ 0b0011#4) b1 b2) s = incPair p s := by
  cases p <;> rfl

theorem exec_dec_rr : exec (decode3 (0b00#2 ++ p.code ++ 0b1011#4) b1 b2) s = decPair p s := by
  cases p <;> rfl

end

/-! ### The wrapping results -/

theorem ofNat_toNat_add (w : Word) (n : Nat) : BitVec.ofNat 16 (w.toNat + n) = w + BitVec.ofNat 16 n := by
  rw [BitVec.ofNat_add, BitVec.ofNat_toNat, BitVec.setWidth_eq]

/-- Going down by one is going up by 65535, mod 65536. -/
theorem sub_one_eq_ofNat (w : Word) : w - 1 = BitVec.ofNat 16 (w.toNat + 65535) := by
  rw [ofNat_toNat_add, BitVec.sub_eq_add_neg]
  rfl

/-! ### The answers -/

/-- ADD HL,rr replaces HL and the flags by those of `add16`, with Z kept. -/
theorem addHL_next (p : Reg16) (s : State) : addHL p s = .next { s.setR16 .hl (add16 s.hl (s.r16 p)).1 with
    f := flagByte (flagZ s.f) false (add16 s.hl (s.r16 p)).2.1 (add16 s.hl (s.r16 p)).2.2
    cycles := s.cycles + 8 } :=
  congrArg Host.Outcome.next (setF_flagByte_spend _ _ _ _ _ 8)

/-! ### The obligation -/

/-- Settles O43: ADD HL,rr is `add16` with Z kept; INC and DEC replace the pair alone. -/
theorem pairArithmetic : Obligations.PairArithmetic := by
  intro s p b1 b2 x y
  rw [exec_add_hl_rr, exec_inc_rr, exec_dec_rr, addHL_next, incPair, decPair, setR16_spend, setR16_spend,
    sub_one_eq_ofNat, ofNat_toNat_add (s.r16 p) 1]
  exact ⟨rfl, rfl, rfl⟩

end Sys2Proof.Machine
end

section
/-! SUPPORT. The rotates, the shifts and the bit operations (spec/44_rotate_shift_bit.md): what the fields of the CB byte select, the
rotates and shifts on natural numbers, and the bits of a byte with one bit replaced. -/

namespace Sys2Proof.Machine

/-! ### The CB forms: the fields of the second byte select the operation, the bit and the operand (30_encoding.md R132, R139) -/

theorem cbByte_fields (x : BitVec 2) (y z : BitVec 3) :
    (x ++ y ++ z).extractLsb' 6 2 = x ∧ (x ++ y ++ z).extractLsb' 3 3 = y ∧ (x ++ y ++ z).extractLsb' 0 3 = z := by
  refine ⟨?_, ?_, BitVec.extractLsb'_append_eq_right⟩
  · rw [BitVec.extractLsb'_append_eq_of_le (by decide)]
    exact BitVec.extractLsb'_append_eq_left
  · rw [BitVec.extractLsb'_append_eq_of_le (by decide)]
    exact BitVec.extractLsb'_append_eq_right

theorem reg8Of_code (r : Reg8) : reg8Of r.code = some r := by
  cases r <;> rfl

theorem rotOpOf_code (op : RotOp) : rotOpOf op.code = op := by
  cases op <;> rfl

section
variable (s : State) (op : RotOp) (x : BitVec 2) (y : BitVec 3) (r : Reg8) (b2 : Byte)

theorem exec_cb_r : exec (decode3 0xCB (x ++ y ++ r.code) b2) s =
    if x = 0 then rotReg (rotOpOf y) r s else if x = 1 then bitReg y r s else if x = 2 then resReg y r s
    else setReg y r s := by
  obtain ⟨hx, hy, hz⟩ := cbByte_fields x y r.code
  refine (runCB_eq_exec _ s).symm.trans ?_
  rw [runCB, hx, hy, hz, reg8Of_code]

theorem exec_cb_mHL : exec (decode3 0xCB (x ++ y ++ 0b110#3) b2) s =
    if x = 0 then rotMem (rotOpOf y) s else if x = 1 then bitMem y s else if x = 2 then resMem y s else setMem y s := by
  obtain ⟨hx, hy, hz⟩ := cbByte_fields x y 0b110#3
  refine (runCB_eq_exec _ s).symm.trans ?_
  rw [runCB, hx, hy, hz]
  rfl

theorem exec_rot_r : exec (decode3 0xCB ((0b00#2 ++ op.code : BitVec 5) ++ r.code) b2) s = rotReg op r s := by
  rw [exec_cb_r, rotOpOf_code]
  rfl

theorem exec_rot_mHL : exec (decode3 0xCB ((0b00#2 ++ op.code : BitVec 5) ++ 0b110#3) b2) s = rotMem op s := by
  rw [exec_cb_mHL, rotOpOf_code]
  rfl

end

/-! ### The rotates and shifts on natural numbers (R405) -/

/-- The result of a rotate or shift of the number `v` with the old carry `cf`, before it is narrowed to a byte. -/
def RotOp.resNat (op : RotOp) (v cf : Nat) : Nat :=
  match op with
  | .rlc => 2 * v + v / 128
  | .rrc => v / 2 + 128 * (v % 2)
  | .rl => 2 * v + cf
  | .rr => v / 2 + 128 * cf
  | .sla => 2 * v
  | .sra => v / 2 + v / 128 * 128
  | .swap => v % 16 * 16 + v / 16
  | .srl => v / 2

/-- The bit that a rotate or shift of the number `v` shifts out. -/
def RotOp.carryNat (op : RotOp) (v : Nat) : Bool :=
  match op with
  | .rlc | .rl | .sla => decide (v / 128 = 1)
  | .rrc | .rr | .sra | .srl => decide (v % 2 = 1)
  | .swap => false

/-- A byte shifted left, with a number put in the freed bits, is their sum mod 256. -/
theorem toNat_shiftLeft_or {v w : Byte} {n : Nat} (hw : w.toNat < 2 ^ n) :
    (v <<< n ||| w).toNat = (v.toNat * 2 ^ n + w.toNat) % 256 := by
  rw [BitVec.toNat_or, BitVec.toNat_shiftLeft, ← Nat.shiftLeft_eq, Nat.shiftLeft_add_eq_or_of_lt hw,
    Nat.or_mod_two_pow (n := 8), Nat.mod_eq_of_lt w.isLt]

theorem toNat_ushiftRight_eq_div (v : Byte) (n : Nat) : (v >>> n).toNat = v.toNat / 2 ^ n := by
  rw [BitVec.toNat_ushiftRight, Nat.shiftRight_eq_div_pow]

/-- In every rotate the bits that go left and those that go right do not overlap, so that their union is a sum. -/
theorem RotOp.res_eq (op : RotOp) (v : Byte) (cf : Bool) :
    op.res v cf = BitVec.ofNat 8 (op.resNat v.toNat cf.toNat) := by
  have hcf : ((BitVec.ofBool cf).zeroExtend 8).toNat = cf.toNat := by cases cf <;> rfl
  have hcf_le : cf.toNat ≤ 1 := Bool.toNat_le cf
  have hdiv2 := toNat_ushiftRight_eq_div v 1
  have hdiv16 := toNat_ushiftRight_eq_div v 4
  have hdiv128 := toNat_ushiftRight_eq_div v 7
  have hnibble : (v &&& 0x0F).toNat = v.toNat % 16 := Nat.and_two_pow_sub_one_eq_mod v.toNat 4
  have hsign : v &&& (0x80 : Byte) = v >>> 7 <<< 7 := (BitVec.shiftLeft_ushiftRight (x := v) (n := 7)).symm
  apply BitVec.eq_of_toNat_eq
  rw [BitVec.toNat_ofNat]
  cases op <;> dsimp only [RotOp.res, RotOp.resNat]
  case rlc | rl | swap => rw [toNat_shiftLeft_or] <;> omega
  case rrc | rr => rw [BitVec.or_comm, toNat_shiftLeft_or] <;> omega
  case sla => rw [BitVec.toNat_shiftLeft, Nat.shiftLeft_eq, Nat.mul_comm]
  case sra => rw [hsign, BitVec.or_comm, toNat_shiftLeft_or] <;> omega
  case srl => omega

theorem RotOp.carry_eq (op : RotOp) (v : Byte) : op.carry v = op.carryNat v.toNat := by
  have hhigh : v.getLsbD 7 = decide (v.toNat / 128 = 1) := by
    rw [BitVec.getLsbD, Nat.testBit_eq_decide_div_mod_eq, decide_eq_decide]
    omega
  have hlow : v.getLsbD 0 = decide (v.toNat % 2 = 1) := Nat.testBit_zero v.toNat
  cases op with
  | rlc | rl | sla => exact hhigh
  | rrc | rr | sra | srl => exact hlow
  | swap => rfl

theorem RotOp.apply_flags (op : RotOp) (v : Byte) (cf : Bool) : (op.apply v cf).flags =
    flagByte (decide (op.resNat v.toNat cf.toNat % 256 = 0)) false false (op.carryNat v.toNat) := by
  have hzero : op.res v cf = 0 ↔ op.resNat v.toNat cf.toNat % 256 = 0 := by
    rw [op.res_eq]
    exact ofNat_eq_zero_iff _
  rw [← decide_eq_decide.2 hzero, ← op.carry_eq]
  rfl

theorem rotAcc_next (op : RotOp) (s : State) : rotAcc op s = .next { s with
    a := BitVec.ofNat 8 (op.resNat s.a.toNat (flagC s.f).toNat)
    f := flagByte false false false (op.carryNat s.a.toNat), cycles := s.cycles + 4 } := by
  rw [rotAcc, setF_flagByte_spend, op.res_eq, op.carry_eq]

theorem rotReg_next (op : RotOp) (r : Reg8) (s : State) : rotReg op r s =
    .next { s.setR8 r (BitVec.ofNat 8 (op.resNat (s.r8 r).toNat (flagC s.f).toNat)) with
      f := flagByte (decide (op.resNat (s.r8 r).toNat (flagC s.f).toNat % 256 = 0)) false false
        (op.carryNat (s.r8 r).toNat)
      cycles := s.cycles + 8 } := by
  rw [rotReg, setR8_setF_flags_spend, op.apply_flags, ← op.res_eq]
  rfl

/-- A rotate or shift at HL is one write of the result, and then the flags. -/
theorem rotMem_next (op : RotOp) (s : State) : ∃ t, rotMem op s = .next t ∧
    t = { s.writeByte s.hl (BitVec.ofNat 8 (op.resNat (s.readByte s.hl).toNat (flagC s.f).toNat)) with
      f := flagByte (decide (op.resNat (s.readByte s.hl).toNat (flagC s.f).toNat % 256 = 0)) false false
        (op.carryNat (s.readByte s.hl).toNat)
      cycles := s.cycles + 16 } ∧ readsSameBut s t s.hl := by
  rw [← op.apply_flags, ← op.res_eq]
  exact next_writeByte_setF_flags_spend s s.hl _ (op.apply (s.readByte s.hl) (flagC s.f)) 16

/-! ### One bit of a byte (R430 to R435) -/

theorem getLsbD_oneShiftLeft (b : BitVec 3) (i : Nat) :
    (1#8 <<< b.toNat).getLsbD i = decide (i = b.toNat) := by
  rw [← BitVec.twoPow_eq, BitVec.getLsbD_twoPow, decide_eq_true (show b.toNat < 8 from b.isLt), Bool.true_and,
    decide_eq_decide]
  exact eq_comm

theorem getLsbD_clearBit (v : Byte) (b : BitVec 3) (i : Nat) (hi : i < 8) :
    (clearBit v b).getLsbD i = if i = b.toNat then false else v.getLsbD i := by
  rw [clearBit, BitVec.getLsbD_and, BitVec.getLsbD_not, getLsbD_oneShiftLeft b i]
  by_cases h : i = b.toNat <;> simp [h, hi]

theorem getLsbD_setBit (v : Byte) (b : BitVec 3) (i : Nat) :
    (setBit v b).getLsbD i = if i = b.toNat then true else v.getLsbD i := by
  rw [setBit, BitVec.getLsbD_or, getLsbD_oneShiftLeft b i]
  by_cases h : i = b.toNat <;> simp [h]

/-! ### The obligations -/

/-- Settles O44: the four are the rotates of R405 on A, with Z cleared. -/
theorem accumulatorRotates : Obligations.AccumulatorRotates := by
  intro s b1 b2 v cf out
  exact ⟨rotAcc_next .rlc s, rotAcc_next .rrc s, rotAcc_next .rl s, rotAcc_next .rr s⟩

/-- Settles O45: the field selects the operation, and each leaves the result and flags of R405. -/
theorem rotateAndShiftRegister : Obligations.RotateAndShiftRegister := by
  intro s r b2 v cf out
  have hrot (op : RotOp) : exec (decode3 0xCB ((0b00#2 ++ op.code : BitVec 5) ++ r.code) b2) s =
      .next (out (op.resNat v cf) (op.carryNat v)) := (exec_rot_r s op r b2).trans (rotReg_next op r s)
  exact ⟨hrot .rlc, hrot .rrc, hrot .rl, hrot .rr, hrot .sla, hrot .sra, hrot .swap, hrot .srl⟩

/-- Settles O46: the same for the byte at HL. -/
theorem rotateAndShiftMemory : Obligations.RotateAndShiftMemory := by
  intro s b2 hl v cf gives
  have hrot (op : RotOp) : gives (0b00#2 ++ op.code) (op.resNat v cf) (op.carryNat v) := by
    dsimp only [gives]
    rw [exec_rot_mHL]
    exact rotMem_next op s
  exact ⟨hrot .rlc, hrot .rrc, hrot .rl, hrot .rr, hrot .sla, hrot .sra, hrot .swap, hrot .srl⟩

/-- Settles O47: both forms write F alone. -/
theorem bitTest : Obligations.BitTest := by
  intro s b r b2
  exact ⟨(exec_cb_r s 0b01#2 b r b2).trans (congrArg Host.Outcome.next (setF_flagByte_spend s _ false true _ 8)),
    (exec_cb_mHL s 0b01#2 b b2).trans (congrArg Host.Outcome.next (setF_flagByte_spend s _ false true _ 12))⟩

/-- Settles O48: the forms on a register are one `setR8`, those at HL one write, of the byte with the bit replaced. -/
theorem bitResetAndSet : Obligations.BitResetAndSet := by
  intro s b r b2 hl replaced
  obtain ⟨t, ht⟩ := next_writeByte_spend s hl (clearBit (s.readByte hl) b) 16
  obtain ⟨u, hu⟩ := next_writeByte_spend s hl (setBit (s.readByte hl) b) 16
  rw [exec_cb_r, exec_cb_r, exec_cb_mHL, exec_cb_mHL]
  exact ⟨⟨_, getLsbD_clearBit _ b, congrArg Host.Outcome.next (setR8_spend s r _ 8)⟩,
    ⟨_, fun i _ => getLsbD_setBit _ b i, congrArg Host.Outcome.next (setR8_spend s r _ 8)⟩,
    ⟨_, t, getLsbD_clearBit _ b, ht⟩, ⟨_, u, fun i _ => getLsbD_setBit _ b i, hu⟩⟩

end Sys2Proof.Machine
end

section
/-! SUPPORT. Control transfer (spec/45_control.md): the meanings that the bytes of the conditional forms and of RST decode to, what
a taken transfer answers, and a return on top of its call. -/

namespace Sys2Proof.Machine

/-! ### The encoded forms: the fields of the opcode select the condition and the restart (30_encoding.md R136) -/

section
variable (s : State) (cc : Cond) (b1 b2 : Byte)

theorem exec_jp_cc_nn :
    exec (decode3 (0b110#3 ++ cc.code ++ 0b010#3) b1 b2) s = jpCond cc (Word.ofBytes b2 b1) s := by
  cases cc <;> rfl

theorem exec_jr_cc_e : exec (decode3 (0b001#3 ++ cc.code ++ 0b000#3) b1 b2) s = jrCond cc b1 s := by
  cases cc <;> rfl

theorem exec_call_cc_nn :
    exec (decode3 (0b110#3 ++ cc.code ++ 0b100#3) b1 b2) s = callCond cc (Word.ofBytes b2 b1) s := by
  cases cc <;> rfl

theorem exec_ret_cc : exec (decode3 (0b110#3 ++ cc.code ++ 0b000#3) b1 b2) s = retCond cc s := by
  cases cc <;> rfl

theorem exec_rst (y : BitVec 3) : exec (decode3 (0b11#2 ++ y ++ 0b111#3) b1 b2) s = rst y s := by
  fin_cases y <;> rfl

end

/-! ### Calls and returns -/

/-- A call is the two writes of its push, the new SP and the jump (R455). -/
theorem call_spend (s : State) (target : Word) (n : Nat) : (s.call target).spend n =
    { (s.writeByte (s.sp - 1) (Word.hi s.pc)).writeByte (s.sp - 2) (Word.lo s.pc) with
      sp := s.sp - 2, pc := target, cycles := s.cycles + n } :=
  congrArg (State.jump · target) (push16_spend s s.pc n)

theorem popped_jump (s : State) (w : Word) : (s.jump w).popped = s.popped :=
  congrArg₂ Word.ofBytes (readByte_congr rfl rfl rfl rfl rfl _) (readByte_congr rfl rfl rfl rfl rfl _)

section
variable {s : State} {j k : Nat} (hj : ramKey (s.sp - 1) = some j) (hk : ramKey (s.sp - 2) = some k)
include hj hk

/-- Where the return address goes to plain memory, a return from a call changes memory and the cycle count alone. -/
theorem ret_call_spend (target : Word) (n : Nat) :
    ((s.call target).spend n).ret = { s with mem := (s.push16 s.pc).mem, cycles := s.cycles + n } := by
  have hpc : ((s.call target).spend n).popped = s.pc := by
    rw [popped_spend, State.call, popped_jump, popped_push16 hj hk]
  rw [State.ret, hpc]
  exact congrArg (fun t => (t.jump s.pc).spend n) (pop16_push16 hj hk s.pc)

/-- A call that costs `n`, and the RET after it. -/
theorem exists_call_ret {r : Result} {target : Word} {n : Nat} (hr : r = .next ((s.call target).spend n)) :
    ∃ t u, r = .next t ∧ t.pc = target ∧ exec .ret t = .next u ∧
      u = { s with mem := u.mem, cycles := s.cycles + (n + 16) } :=
  ⟨_, _, hr, rfl, rfl, by rw [ret_call_spend hj hk]; rfl⟩

end

/-! ### The obligations -/

/-- Settles O52: a RET finds the address that the call or the restart pushed on top of the stack. -/
theorem returnUndoesCall : Obligations.ReturnUndoesCall := by
  intro s nn y b1 b2 hhi hlo
  obtain ⟨j, hj⟩ := Option.ne_none_iff_exists'.1 hhi
  obtain ⟨k, hk⟩ := Option.ne_none_iff_exists'.1 hlo
  exact ⟨exists_call_ret hj hk (n := 24) rfl, exists_call_ret hj hk (n := 16) (exec_rst s b1 b2 y)⟩

/-- Settles O49: every form is `jump`, under `branch` for the conditional ones, and JR's target is the signed sum. -/
theorem jumps : Obligations.Jumps := by
  intro s cc b1 b2 relative
  have hrel : s.pc + sext b1 = relative := add_sext s.pc b1
  rw [exec_jp_cc_nn, exec_jr_cc_e, ← hrel]
  exact ⟨rfl, rfl, rfl, rfl, rfl⟩

/-- Settles O50: every taken form is one `call`. -/
theorem callsAndRestarts : Obligations.CallsAndRestarts := by
  intro s cc y b1 b2 pushed
  rw [exec_call_cc_nn, exec_rst, callCond, branch, rst, call_spend, call_spend]
  exact ⟨fun x ha hb => writeByte_frame2 s _ _ x _ _ ha hb, congrArg Host.Outcome.next (call_spend s _ 24), rfl, rfl⟩

/-- Settles O51: every taken form is one `ret`, and RETI sets IME beside it. -/
theorem returns : Obligations.Returns := by
  intro s cc b1 b2 popped
  rw [exec_ret_cc]
  exact ⟨rfl, rfl, rfl⟩

end Sys2Proof.Machine
end

section
/-! SUPPORT. The system instructions (spec/46_system.md R490 to R494): the meanings that their five opcodes decode to. -/

namespace Sys2Proof.Machine

/-- Settles O53: each opcode decodes to the meaning that its case names, an update of the control state and 4 cycles, and the meaning
of STOP does not look at its second byte. -/
theorem systemInstructions : Obligations.SystemInstructions := by
  intro s b1 b2
  refine ⟨?nop, ?halt, ?stop, ?stopLength, ?di, ?ei⟩
  case nop => change execNop s = _; rfl
  case halt => change execHalt s = _; rfl
  case stop => change execStop b1 s = _; rfl
  case stopLength => exact (Laws.InstrLength.stop b1 rfl).symm
  case di => change execDi s = _; rfl
  case ei => change execEi s = _; rfl

end Sys2Proof.Machine
end

section
/-! SUPPORT. The timer and the peripherals (spec/60_exceptions.md R620 to R624, R640): the advance of the timer as a number of
expiries, what the expiries make of TIMA and IF, and which bytes a move of the peripherals may change. -/

namespace Sys2Proof.Machine

/-! ### Memory in canonical form is what it reads -/

theorem Memory.read_of_mem {m : Memory} {cell : Host.Cell} (h : m.Pairwise (fun x y => x.1 < y.1)) (hc : cell ∈ m) :
    Memory.read m cell.1 = cell.2 := by
  induction m with
  | nil => cases hc
  | cons x m ih =>
    obtain ⟨hx, hm⟩ := List.pairwise_cons.1 h
    obtain rfl | hc := List.mem_cons.1 hc
    · exact if_pos rfl
    · exact (if_neg (hx cell hc).ne').trans (ih hm hc)

theorem Memory.mem_of_read_ne {m : Memory} {k : Nat} (h : Memory.read m k ≠ resetByte k) : (k, Memory.read m k) ∈ m := by
  induction m with
  | nil => exact absurd rfl h
  | cons x m ih =>
    obtain ⟨j, v⟩ := x
    rw [Memory.read] at h ⊢
    split at h <;> rename_i hk
    · simp [hk]
    · exact List.mem_cons_of_mem _ (by simpa [hk] using ih h)

theorem Memory.mem_iff {m : Memory} (h : Memory.wf m) (cell : Host.Cell) :
    cell ∈ m ↔ Memory.read m cell.1 = cell.2 ∧ cell.2 ≠ resetByte cell.1 := by
  refine ⟨fun hc => ⟨Memory.read_of_mem h.1 hc, h.2 cell hc⟩, fun ⟨hread, hne⟩ => ?_⟩
  have hmem := Memory.mem_of_read_ne (hread ▸ hne)
  rwa [hread] at hmem

/-- Two memories in canonical form that read alike list the same bytes. -/
theorem Memory.ext_read {m m' : Memory} (h : Memory.wf m) (h' : Memory.wf m')
    (hread : ∀ k, Memory.read m k = Memory.read m' k) : m = m' :=
  have : Std.Irrefl (fun x y : Host.Cell => x.1 < y.1) := ⟨fun x => lt_irrefl x.1⟩
  have : Std.Antisymm (fun x y : Host.Cell => x.1 < y.1) := ⟨fun _ _ hxy hyx => absurd hyx hxy.asymm⟩
  h.1.eq_of_mem_iff h'.1 fun cell => by rw [Memory.mem_iff h, Memory.mem_iff h', hread]

/-! ### The timer's advance, as a number of expiries -/

/-- How often TIMA counts in `timerAdvance(c)`. -/
def State.timaCounts (s : State) (c : Nat) : Nat :=
  if tacEnabled s.tac then expiries (s.countdown - c) (period (tacRate s.tac)) else 0

/-- The countdown after `timerAdvance(c)`. -/
def State.countdownAfter (s : State) (c : Nat) : Int :=
  if tacEnabled s.tac then s.countdown - c + s.timaCounts c * period (tacRate s.tac) else s.countdown

/-- The state in which TIMA starts to count in `timerAdvance(c)`: both counters and DIV are at their new values. -/
def State.counted (s : State) (c : Nat) : State :=
  ({ s with sysCounter := s.sysCounter + BitVec.ofNat 16 c, countdown := s.countdownAfter c } : State).setCell 0xFF04
    (Word.hi (s.sysCounter + BitVec.ofNat 16 c))

theorem timerAdvance_eq (s : State) (c : Nat) : s.timerAdvance c = (s.counted c).tickTimaTimes (s.timaCounts c) := by
  unfold State.timerAdvance
  dsimp only
  rw [forceWrite_io _ _ _ rfl]
  unfold State.counted State.countdownAfter State.timaCounts
  have htac (w : Word) (v : Byte) : (({ s with sysCounter := w } : State).setCell 0xFF04 v).tac = s.tac :=
    (cell_setCell _ _ _ _).trans (if_neg (by decide))
  rw [show (0xFF04 : Word).toNat = 0xFF04 from rfl, htac]
  split
  · unfold State.countDown
    rw [htac]
    rfl
  · rfl

section
variable (s : State) (c : Nat)

theorem counted_cell {k : Nat} (hk : k ≠ 0xFF04) : (s.counted c).cell k = s.cell k :=
  (cell_setCell _ _ _ _).trans (if_neg hk)

/-! ### What the expiries make of TIMA and IF (R621, R624) -/

theorem tickTima_of_lt {s : State} (h : s.tima.toNat < 255) : s.tickTima = s.setCell 0xFF05 (s.tima + 1) := by
  rw [tickTima_eq, if_neg (by omega)]

theorem tickTima_of_overflow {s : State} (h : s.tima.toNat = 255) :
    s.tickTima = (s.setCell 0xFF05 s.tma).setCell 0xFF0F (s.ifReg ||| 4#8) := by
  rw [tickTima_eq, if_pos (by omega)]

theorem tima_lt_or_overflow : s.tima.toNat < 255 ∨ s.tima.toNat = 255 := by
  have := s.tima.isLt
  omega

theorem tickTima_cell {k : Nat} (h5 : k ≠ 0xFF05) (hf : k ≠ 0xFF0F) : s.tickTima.cell k = s.cell k := by
  obtain h | h := tima_lt_or_overflow s
  · rw [tickTima_of_lt h, cell_setCell, if_neg h5]
  · rw [tickTima_of_overflow h, cell_setCell, if_neg hf, cell_setCell, if_neg h5]

theorem tickTima_tima : s.tickTima.tima.toNat = if s.tima.toNat = 255 then s.tma.toNat else s.tima.toNat + 1 := by
  obtain h | h := tima_lt_or_overflow s
  · rw [tickTima_of_lt h, if_neg h.ne, State.tima, cell_setCell, if_pos rfl, BitVec.toNat_add]
    exact Nat.mod_eq_of_lt (show s.tima.toNat + 1 < 256 by omega)
  · rw [tickTima_of_overflow h, if_pos h, State.tima, cell_setCell, if_neg (by decide), cell_setCell, if_pos rfl]

theorem tickTima_ifReg : s.tickTima.ifReg = if s.tima.toNat = 255 then s.ifReg ||| 4#8 else s.ifReg := by
  obtain h | h := tima_lt_or_overflow s
  · rw [tickTima_of_lt h, if_neg h.ne]
    exact (cell_setCell _ _ _ _).trans (if_neg (by decide))
  · rw [tickTima_of_overflow h, if_pos h]
    exact (cell_setCell _ _ _ _).trans (if_pos rfl)

theorem tickTimaTimes_cell {s : State} (n : Nat) {k : Nat} (h5 : k ≠ 0xFF05) (hf : k ≠ 0xFF0F) :
    (s.tickTimaTimes n).cell k = s.cell k := by
  induction n generalizing s with
  | zero => rfl
  | succ n ih => exact ih.trans (tickTima_cell s h5 hf)

/-- `n` counts from the reload value `r`: the first round ends at 255, and each starts again at `r`. -/
theorem round_from_reload {r : Nat} (n : Nat) (hr : r < 256) :
    (if r + n ≤ 255 then r + n else r + (r + n - 256) % (256 - r)) = r + n % (256 - r) := by
  split
  · rw [Nat.mod_eq_of_lt (by omega)]
  · rw [Nat.mod_eq_sub_mod (show 256 - r ≤ n by omega), show r + n - 256 = n - (256 - r) by omega]

/-- Past 255 TIMA goes round from TMA to 255. -/
theorem tickTimaTimes_tima {s : State} (n : Nat) : (s.tickTimaTimes n).tima.toNat =
    if s.tima.toNat + n ≤ 255 then s.tima.toNat + n
    else s.tma.toNat + (s.tima.toNat + n - 256) % (256 - s.tma.toNat) := by
  induction n generalizing s with
  | zero =>
    have := s.tima.isLt
    rw [if_pos (by omega)]
    rfl
  | succ n ih =>
    have htma : s.tickTima.tma = s.tma := tickTima_cell s (by decide) (by decide)
    rw [State.tickTimaTimes, ih, htma, tickTima_tima]
    obtain h | h := tima_lt_or_overflow s
    · rw [if_neg h.ne, Nat.add_assoc, Nat.add_comm 1 n]
    · have hpast : ¬ s.tima.toNat + (n + 1) ≤ 255 := by omega
      have hcount : s.tima.toNat + (n + 1) - 256 = n := by omega
      rw [if_pos h, if_neg hpast, hcount]
      exact round_from_reload n s.tma.isLt

/-- IF bit 2 is set exactly when TIMA passes 255. -/
theorem tickTimaTimes_ifReg {s : State} (n : Nat) : (s.tickTimaTimes n).ifReg =
    if s.tima.toNat + n ≤ 255 then s.ifReg else s.ifReg ||| 4#8 := by
  induction n generalizing s with
  | zero =>
    have := s.tima.isLt
    rw [if_pos (by omega)]
    rfl
  | succ n ih =>
    rw [State.tickTimaTimes, ih, tickTima_ifReg, tickTima_tima]
    obtain h | h := tima_lt_or_overflow s
    · rw [if_neg h.ne, if_neg h.ne, Nat.add_assoc, Nat.add_comm 1 n]
    · have hpast : ¬ s.tima.toNat + (n + 1) ≤ 255 := by omega
      rw [if_pos h, if_pos h, if_neg hpast, BitVec.or_assoc, BitVec.or_self, ite_self]

theorem tickTimaTimes_add (m n : Nat) : s.tickTimaTimes (m + n) = (s.tickTimaTimes m).tickTimaTimes n := by
  induction m generalizing s with
  | zero => rw [Nat.zero_add]; rfl
  | succ m ih => rw [Nat.succ_add, State.tickTimaTimes, ih]; rfl

/-- The expiries do not look at DIV. -/
theorem tickTimaTimes_cell_congr {s t : State} (h : ∀ k, k ≠ 0xFF04 → t.cell k = s.cell k) (n : Nat) {k : Nat}
    (hk : k ≠ 0xFF04) : (t.tickTimaTimes n).cell k = (s.tickTimaTimes n).cell k := by
  have htima : t.tima = s.tima := h _ (by decide)
  have htma : t.tma = s.tma := h _ (by decide)
  have hif : t.ifReg = s.ifReg := h _ (by decide)
  by_cases h5 : k = 0xFF05
  · rw [h5]
    refine BitVec.eq_of_toNat_eq ((tickTimaTimes_tima n).trans ?_)
    rw [htima, htma]
    exact (tickTimaTimes_tima n).symm
  by_cases hf : k = 0xFF0F
  · rw [hf]
    refine (tickTimaTimes_ifReg n).trans ?_
    rw [htima, hif]
    exact (tickTimaTimes_ifReg n).symm
  · rw [tickTimaTimes_cell n h5 hf, tickTimaTimes_cell n h5 hf, h k hk]

/-! ### One advance of the timer -/

theorem timerAdvance_sysCounter : (s.timerAdvance c).sysCounter = s.sysCounter + BitVec.ofNat 16 c := by
  obtain ⟨m, e⟩ := tickTimaTimes_only (s.counted c) (s.timaCounts c)
  rw [timerAdvance_eq, e]
  rfl

theorem timerAdvance_countdown : (s.timerAdvance c).countdown = s.countdownAfter c := by
  obtain ⟨m, e⟩ := tickTimaTimes_only (s.counted c) (s.timaCounts c)
  rw [timerAdvance_eq, e]
  rfl

theorem timerAdvance_div : (s.timerAdvance c).cell 0xFF04 = Word.hi (s.sysCounter + BitVec.ofNat 16 c) := by
  rw [timerAdvance_eq, tickTimaTimes_cell _ (by decide) (by decide)]
  exact (cell_setCell _ _ _ _).trans (if_pos rfl)

/-- Every byte but DIV is that of the expiries alone. -/
theorem timerAdvance_cell {k : Nat} (hk : k ≠ 0xFF04) :
    (s.timerAdvance c).cell k = (s.tickTimaTimes (s.timaCounts c)).cell k := by
  rw [timerAdvance_eq]
  exact tickTimaTimes_cell_congr (fun _ => counted_cell s c) _ hk

theorem timerAdvance_cell_of_ne {k : Nat} (h4 : k ≠ 0xFF04) (h5 : k ≠ 0xFF05) (hf : k ≠ 0xFF0F) :
    (s.timerAdvance c).cell k = s.cell k := by
  rw [timerAdvance_cell s c h4, tickTimaTimes_cell _ h5 hf]

theorem timerAdvance_ifReg : (s.timerAdvance c).ifReg =
    if s.tima.toNat + s.timaCounts c ≤ 255 then s.ifReg else s.ifReg ||| 4#8 :=
  (timerAdvance_cell s c (by decide)).trans (tickTimaTimes_ifReg _)

/-- The number of expiries in closed form, from a countdown that has not expired. -/
theorem expiries_eq_div {cd : Int} {p : Nat} (hp : 1 ≤ p) (hcd : 1 ≤ cd) :
    expiries (cd - c) p = (c + p - cd.toNat) / p := by
  unfold expiries
  split
  · exact (Nat.div_eq_of_lt (by omega)).symm
  · rw [← Nat.add_div_right _ (show 0 < p from hp)]
    congr 1
    omega

end

/-- Settles O58: the advance is `timaCounts` expiries, whose number is the quotient and whose effect is `tickTimaTimes_tima` and
`tickTimaTimes_ifReg`. -/
theorem timerCountsExactly : Obligations.TimerCountsExactly := by
  intro s c t tac
  refine ⟨⟨?only, ?counter, ?div, fun k h4 h5 hf => timerAdvance_cell_of_ne s c h4 h5 hf⟩, fun hoff => ?disabled,
    fun hon => ?enabled⟩
  case only =>
    obtain ⟨m, sc, cd, e⟩ := timerAdvance_only s c
    have ht : t = { s with mem := m, sysCounter := sc, countdown := cd } := e
    rw [ht]
  case counter =>
    show (s.timerAdvance c).sysCounter.toNat = _
    rw [timerAdvance_sysCounter]
    simp
  case div =>
    show (s.timerAdvance c).cell 0xFF04 = Word.hi (s.timerAdvance c).sysCounter
    rw [timerAdvance_div, timerAdvance_sysCounter]
  case disabled =>
    have hcounts : s.timaCounts c = 0 := if_neg (Bool.eq_false_iff.1 hoff)
    have hcell {k : Nat} (hk : k ≠ 0xFF04) : t.cell k = s.cell k := by
      rw [timerAdvance_cell s c hk, hcounts]
      rfl
    exact ⟨(timerAdvance_countdown s c).trans (if_neg (Bool.eq_false_iff.1 hoff)), hcell (by decide), hcell (by decide)⟩
  case enabled =>
    intro p hcd n tima tma
    have hp : p = period (tacRate s.tac) := by
      unfold p
      show _ = period (tac.extractLsb' 0 2)
      obtain h | h | h | h := rate_cases (tac.extractLsb' 0 2) <;> rw [h] <;> rfl
    have hcounts : s.timaCounts c = n := by
      show s.timaCounts c = (c + p - s.countdown.toNat) / p
      rw [hp, ← expiries_eq_div c (period_pos _) hcd]
      exact if_pos hon
    refine ⟨?_, ?_, ?_⟩
    · rw [timerAdvance_countdown, State.countdownAfter, hcounts, hp]
      exact if_pos hon
    · rw [timerAdvance_cell s c (by decide), hcounts]
      exact tickTimaTimes_tima n
    · rw [← hcounts]
      exact timerAdvance_ifReg s c

/-! ### Two advances of the timer -/

/-- The loop of the countdown stops at the only number of periods that leaves it between 1 and the period. -/
theorem expiries_unique {cd : Int} {p m : Nat} (h1 : 1 ≤ cd + m * p) (h2 : cd + m * p ≤ p) : expiries cd p = m := by
  have hmp : (0 : Int) ≤ m * p := by positivity
  obtain ⟨h1', h2'⟩ := expiries_spec cd p (by omega) (by omega)
  generalize expiries cd p = n at h1' h2' ⊢
  obtain h | h | h := lt_trichotomy n m
  · have : ((n : Int) + 1) * p ≤ m * p := Int.mul_le_mul_of_nonneg_right (by omega) (by omega)
    linarith
  · exact h
  · have : ((m : Int) + 1) * p ≤ n * p := Int.mul_le_mul_of_nonneg_right (by omega) (by omega)
    linarith

section
variable {s : State} (hs : Inv s) (c1 c2 : Nat)
include hs

/-- Neither the expiries nor the countdown depend on how the cycles are cut into two advances. -/
theorem timaCounts_countdownAfter_add :
    s.timaCounts c1 + (s.timerAdvance c1).timaCounts c2 = s.timaCounts (c1 + c2) ∧
      (s.timerAdvance c1).countdownAfter c2 = s.countdownAfter (c1 + c2) := by
  have htac : (s.timerAdvance c1).tac = s.tac := timerAdvance_cell_of_ne s c1 (by decide) (by decide) (by decide)
  have hcd1 := timerAdvance_countdown s c1
  have hle := (timerAdvance_inv hs c1).countdown_le
  unfold State.countdownAfter State.timaCounts at *
  rw [htac] at hle ⊢
  by_cases hen : tacEnabled s.tac = true
  · simp only [if_pos hen] at hcd1 ⊢
    rw [hcd1] at hle ⊢
    have hp := period_pos (tacRate s.tac)
    generalize period (tacRate s.tac) = p at hp hle ⊢
    generalize expiries (s.countdown - c1) p = n1 at hle ⊢
    obtain ⟨h1, h2⟩ := expiries_spec (s.countdown - c1 + n1 * p - c2) p hp (by omega)
    generalize expiries (s.countdown - c1 + n1 * p - c2) p = n2 at h1 h2 ⊢
    have hsum : s.countdown - c1 + n1 * p - c2 + n2 * p = s.countdown - (c1 + c2 : ℕ) + (n1 + n2 : ℕ) * p := by
      push_cast
      ring
    rw [hsum] at h1 h2 ⊢
    rw [expiries_unique h1 h2]
    exact ⟨rfl, rfl⟩
  · simp only [if_neg hen] at hcd1 ⊢
    exact ⟨trivial, hcd1⟩

theorem timerAdvance_add_cell (k : Nat) :
    ((s.timerAdvance c1).timerAdvance c2).cell k = (s.timerAdvance (c1 + c2)).cell k := by
  by_cases hk : k = 0xFF04
  · rw [hk, timerAdvance_div, timerAdvance_div, timerAdvance_sysCounter, BitVec.ofNat_add, BitVec.add_assoc]
  · obtain ⟨hcounts, -⟩ := timaCounts_countdownAfter_add hs c1 c2
    rw [timerAdvance_cell _ c2 hk, timerAdvance_cell _ (c1 + c2) hk, ← hcounts, tickTimaTimes_add]
    exact tickTimaTimes_cell_congr (fun _ => timerAdvance_cell s c1) _ hk

end

/-- Settles O59: the counters add up, and so does every byte; memory in canonical form is what it reads. -/
theorem timerAdvanceAddsUp : Obligations.TimerAdvanceAddsUp := by
  intro s c1 c2 hs
  have hmem : ((s.timerAdvance c1).timerAdvance c2).mem = (s.timerAdvance (c1 + c2)).mem :=
    Memory.ext_read (timerAdvance_inv (timerAdvance_inv hs c1) c2).mem_wf (timerAdvance_inv hs (c1 + c2)).mem_wf
      (timerAdvance_add_cell hs c1 c2)
  have hcounter : ((s.timerAdvance c1).timerAdvance c2).sysCounter = (s.timerAdvance (c1 + c2)).sysCounter := by
    simp only [timerAdvance_sysCounter, BitVec.ofNat_add, BitVec.add_assoc]
  have hcountdown : ((s.timerAdvance c1).timerAdvance c2).countdown = (s.timerAdvance (c1 + c2)).countdown := by
    obtain ⟨-, hcd⟩ := timaCounts_countdownAfter_add hs c1 c2
    rw [timerAdvance_countdown, timerAdvance_countdown, hcd]
  obtain ⟨m1, sc1, cd1, e1⟩ := timerAdvance_only s c1
  obtain ⟨m2, sc2, cd2, e2⟩ := timerAdvance_only (s.timerAdvance c1) c2
  obtain ⟨m, sc, cd, e⟩ := timerAdvance_only s (c1 + c2)
  rw [e2, e] at hmem hcounter hcountdown ⊢
  rw [e1]
  cases hmem
  cases hcounter
  cases hcountdown
  rfl

/-! ### What a move of the peripherals may change (R640) -/

/-- From `s` to `t` no byte changes but those that the peripherals own and IF, whose bits 0, 1, 3 and 4 may be set. -/
structure PeriphKeeps (s t : State) : Prop where
  cell : ∀ k, k ≠ 0xFF0F → periphOwned k = false → t.cell k = s.cell k
  requested : ∀ j, s.ifReg.getLsbD j = true → t.ifReg.getLsbD j = true
  notRequested : ∀ j ∈ [2, 5, 6, 7], t.ifReg.getLsbD j = s.ifReg.getLsbD j

theorem PeriphKeeps.refl {s : State} : PeriphKeeps s s := ⟨fun _ _ _ => rfl, fun _ => id, fun _ _ => rfl⟩

theorem PeriphKeeps.trans {s t u : State} (h : PeriphKeeps s t) (h' : PeriphKeeps t u) : PeriphKeeps s u where
  cell k hk ho := (h'.cell k hk ho).trans (h.cell k hk ho)
  requested j hj := h'.requested j (h.requested j hj)
  notRequested j hj := (h'.notRequested j hj).trans (h.notRequested j hj)

/-- The relation looks at memory alone. -/
theorem PeriphKeeps.of_mem {s t : State} (h : t.mem = s.mem) : PeriphKeeps s t where
  cell k _ _ := cell_congr h k
  requested j hj := by rwa [State.ifReg, cell_congr h]
  notRequested j _ := by rw [State.ifReg, cell_congr h, State.ifReg]

theorem periphOwned_iff {k : Nat} : periphOwned k = true ↔
    (0xFF01 ≤ k ∧ k ≤ 0xFF02) ∨ (0xFF10 ≤ k ∧ k ≤ 0xFF3F) ∨ (0xFF40 ≤ k ∧ k ≤ 0xFF4B) := by
  simp only [periphOwned, Bool.or_eq_true, decide_eq_true_eq, or_assoc]

/-- A byte that a peripheral owns lies in the I/O block, where a ForceWrite stores it. -/
theorem periphWrite_of_owned (s : State) {cell : Host.Cell} (h : periphOwned cell.1 = true) :
    s.periphWrite cell = s.setCell cell.1 cell.2 := by
  have hrange := periphOwned_iff.1 h
  have haddr : (BitVec.ofNat 16 cell.1).toNat = cell.1 := by
    rw [BitVec.toNat_ofNat]
    exact Nat.mod_eq_of_lt (by omega)
  rw [State.periphWrite, if_pos h, forceWrite_io _ _ _ (classify_io (by omega) (by omega)), haddr]

theorem periphWrite_keeps (s : State) (cell : Host.Cell) : PeriphKeeps s (s.periphWrite cell) := by
  by_cases h : periphOwned cell.1 = true
  · have hif : (s.periphWrite cell).ifReg = s.ifReg := by
      rw [periphWrite_of_owned s h]
      exact (cell_setCell _ _ _ _).trans (if_neg (by rintro e; rw [← e] at h; cases h))
    refine ⟨fun k _ hk => ?_, fun j => by rw [hif]; exact id, fun j _ => by rw [hif]⟩
    rw [periphWrite_of_owned s h, cell_setCell, if_neg (by rintro rfl; rw [hk] at h; cases h)]
  · rw [State.periphWrite, if_neg h]
    exact .refl

theorem periphRequest_keeps (s : State) (requests : Byte) {k : Nat} (hk : k ≤ 4) (h2 : k ≠ 2) :
    PeriphKeeps s (s.periphRequest requests k) := by
  unfold State.periphRequest
  split
  · obtain ⟨-, -, hrequest⟩ := privilegedWrites
    obtain ⟨hbit, hcell, -⟩ := hrequest s k hk
    refine ⟨fun x hx _ => hcell x hx, fun j hj => ?_, fun j hj => ?_⟩
    · exact (hbit j (BitVec.lt_of_getLsbD hj)).trans (by rw [show (s.cell 0xFF0F).getLsbD j = true from hj, Bool.true_or])
    · simp only [List.mem_cons, List.not_mem_nil, or_false] at hj
      have hne : (j == k) = false := beq_false_of_ne (by omega)
      exact (hbit j (by omega)).trans (by rw [hne, Bool.or_false]; rfl)
  · exact .refl

theorem foldl_keeps {α : Type} {f : State → α → State} {xs : List α} (hf : ∀ x ∈ xs, ∀ s, PeriphKeeps s (f s x))
    (s : State) : PeriphKeeps s (xs.foldl f s) := by
  induction xs generalizing s with
  | nil => exact .refl
  | cons x xs ih =>
    obtain ⟨hx, hxs⟩ := List.forall_mem_cons.1 hf
    exact (hx s).trans (ih hxs _)

theorem applyMove_keeps (s : State) (m : PeriphMove) : PeriphKeeps s (s.applyMove m) := by
  have hwrites : PeriphKeeps s (m.ioWrites.foldl State.periphWrite s) := foldl_keeps (fun x _ s => periphWrite_keeps s x) s
  have hjoy (t : State) (joy : List (Byte × Byte)) : PeriphKeeps t { t with joy := joy } := .of_mem rfl
  have hbits : ∀ k ∈ [0, 1, 3, 4], k ≤ 4 ∧ k ≠ 2 := by decide
  have hrequests (t : State) : PeriphKeeps t ([0, 1, 3, 4].foldl (fun s k => s.periphRequest m.requests k) t) :=
    foldl_keeps (fun k hk s => periphRequest_keeps s m.requests (hbits k hk).1 (hbits k hk).2) t
  exact (hwrites.trans (hjoy _ _)).trans (hrequests _)

theorem peripheralsAdvance_of_nil {s : State} (h : s.periph = []) : s.peripheralsAdvance = s := by
  rw [State.peripheralsAdvance, h]

theorem peripheralsAdvance_keeps (s : State) : PeriphKeeps s s.peripheralsAdvance := by
  unfold State.peripheralsAdvance
  split
  · exact .refl
  · rename_i m rest _
    have hperiph : PeriphKeeps s { s with periph := rest } := .of_mem rfl
    exact hperiph.trans (applyMove_keeps _ m)

/-- Settles O60: `PeriphKeeps` holds of every move. -/
theorem peripheralsAreBounded : Obligations.PeripheralsAreBounded := by
  intro s t
  have hkeeps : PeriphKeeps s t := peripheralsAdvance_keeps s
  refine ⟨?only, peripheralsAdvance_of_nil, fun k hk hserial haudio hlcd => hkeeps.cell k hk (Bool.eq_false_iff.2 ?notOwned),
    hkeeps.requested, hkeeps.notRequested⟩
  case only =>
    obtain ⟨m, j, e⟩ := peripheralsAdvance_only s
    have ht : t = { s with mem := m, joy := j, periph := s.periph.tail } := e
    rw [ht]
  case notOwned =>
    rw [Ne, periphOwned_iff]
    exact not_or.2 ⟨hserial, not_or.2 ⟨haudio, hlcd⟩⟩

end Sys2Proof.Machine
end

section
/-! SUPPORT. Interrupts (spec/60_exceptions.md R602, R605 to R607, R610 to R615): the selection, the service entry, what the
interrupt check answers in each of its four cases, and what the phases after an instruction make of it. -/

namespace Sys2Proof.Machine

/-! ### The selection (R612) -/

theorem sourceBit_getElem {i : Nat} (hi : i < sources.length) : sourceBit sources[i] = i := by
  have hi5 : i < 5 := hi
  interval_cases i <;> rfl

theorem sourceBit_lt (k : InterruptSource) : sourceBit k < sources.length := by
  cases k <;> decide

theorem getElem_sourceBit (k : InterruptSource) : sources[sourceBit k]'(sourceBit_lt k) = k := by
  cases k <;> rfl

theorem selectPendingInterrupt_eq (requested enabled : Byte) : selectPendingInterrupt requested enabled =
    sources.find? (fun k => (requested &&& enabled).getLsbD (sourceBit k)) := by
  simp only [selectPendingInterrupt, BitVec.getLsbD_and]

/-- The list of sources has each at the place of its bit, so the first of the list is the lowest bit. -/
theorem selectPendingInterrupt_eq_some_iff {requested enabled : Byte} {k : InterruptSource} :
    selectPendingInterrupt requested enabled = some k ↔ ((requested &&& enabled).getLsbD (sourceBit k) = true ∧
      ∀ j : Nat, j < sourceBit k → (requested &&& enabled).getLsbD j = false) := by
  rw [selectPendingInterrupt_eq, List.find?_eq_some_iff_getElem]
  constructor
  · rintro ⟨hk, i, hi, rfl, hlower⟩
    rw [sourceBit_getElem hi] at hk ⊢
    refine ⟨hk, fun j hj => ?_⟩
    simpa [sourceBit_getElem (hj.trans hi), -BitVec.getLsbD_and] using hlower j hj
  · rintro ⟨hk, hlower⟩
    refine ⟨hk, sourceBit k, sourceBit_lt k, getElem_sourceBit k, fun j hj => ?_⟩
    simpa [sourceBit_getElem (hj.trans (sourceBit_lt k)), -BitVec.getLsbD_and] using hlower j hj

theorem and_sourceMask_eq_zero_iff {b : Byte} : b &&& 0x1F = 0 ↔ ∀ k ∈ sources, b.getLsbD (sourceBit k) = false := by
  revert b
  decide

theorem selectPendingInterrupt_eq_none_iff {requested enabled : Byte} :
    selectPendingInterrupt requested enabled = none ↔ requested &&& enabled &&& 0x1F = 0 := by
  simp only [selectPendingInterrupt_eq, List.find?_eq_none, and_sourceMask_eq_zero_iff, Bool.not_eq_true]

/-- Settles O54; the bits and the vectors by evaluation. -/
theorem prioritySelection : Obligations.PrioritySelection :=
  ⟨fun _ _ _ => selectPendingInterrupt_eq_some_iff, fun _ _ => selectPendingInterrupt_eq_none_iff,
    ⟨rfl, rfl, rfl, rfl, rfl⟩, ⟨rfl, rfl, rfl, rfl, rfl⟩⟩

/-! ### The service entry (R613) -/

theorem getLsbD_clearRequest (v : Byte) (k j : Nat) (hj : j < 8) :
    (v &&& ~~~(1#8 <<< k)).getLsbD j = (v.getLsbD j && decide (j ≠ k)) := by
  rw [← BitVec.twoPow_eq, BitVec.getLsbD_and, BitVec.getLsbD_not, BitVec.getLsbD_twoPow]
  by_cases h : j = k
  · simp [← h, hj]
  · simp [h, Ne.symm h, hj]

/-- Settles O55: a push is two writes, and no write reaches a register. -/
theorem serviceEntry : Obligations.ServiceEntry := by
  intro s k cleared
  refine ⟨?entry, fun j hj => ?requests, ?frame⟩
  case entry =>
    rw [State.service]
    dsimp only
    rw [push16_eq]
    rfl
  case requests =>
    rw [← getLsbD_clearRequest _ _ j hj]
    exact congrArg (BitVec.getLsbD · j) ((cell_setCell _ _ _ _).trans (if_pos rfl))
  case frame =>
    obtain ⟨m, c, sc, cd, e, -⟩ := service_only s k
    rw [e]
    exact ⟨⟨rfl, rfl, rfl, rfl, rfl, rfl, rfl, rfl⟩, rfl, rfl, rfl⟩

/-! ### The four cases of the interrupt check -/

section
variable {s : State}

/-- A stopped core wakes by IF bit 4 alone (R606, R607). -/
theorem interruptCheck_stopped (hm : s.mode = .stopped) :
    s.interruptCheck = ({ s with mode := if s.ifReg.getLsbD 4 then .running else .stopped }, 0) := by
  rw [State.interruptCheck, if_pos hm]
  split
  · rfl
  · rw [← hm]

theorem interruptCheck_idle (hm : s.mode ≠ .stopped) (hp : s.pending = 0) : s.interruptCheck = (s, 0) := by
  have hnone : selectPendingInterrupt s.ifReg s.ieReg = none := selectPendingInterrupt_eq_none_iff.2 hp
  have hasleep : ¬ (s.mode = .halted ∧ s.pending ≠ 0) := fun h => h.2 hp
  rw [State.interruptCheck, if_neg hm]
  dsimp only
  rw [if_neg hasleep, hnone, ite_self]

/-- A pending interrupt leaves the core running (R605). -/
theorem woken_of_pending (hm : s.mode ≠ .stopped) (hp : s.pending ≠ 0) :
    (if s.mode = .halted ∧ s.pending ≠ 0 then ({ s with mode := .running } : State) else s) =
      { s with mode := .running } := by
  split
  · rfl
  · rename_i hasleep
    have hrunning : s.mode = .running := by
      cases hmode : s.mode with
      | running => rfl
      | halted => exact absurd ⟨hmode, hp⟩ hasleep
      | stopped => exact absurd hmode hm
    rw [← hrunning]

theorem interruptCheck_masked (hm : s.mode ≠ .stopped) (hp : s.pending ≠ 0) (hi : s.ime = false) :
    s.interruptCheck = ({ s with mode := .running }, 0) := by
  rw [State.interruptCheck, if_neg hm]
  dsimp only
  rw [woken_of_pending hm hp, if_neg (by rw [hi]; decide)]

theorem interruptCheck_served (hm : s.mode ≠ .stopped) (hp : s.pending ≠ 0) (hi : s.ime = true) :
    ∃ k, selectPendingInterrupt s.ifReg s.ieReg = some k ∧
      s.interruptCheck = (({ s with mode := .running } : State).service k, serviceCycles) := by
  obtain ⟨k, hk⟩ := Option.ne_none_iff_exists'.1 (mt selectPendingInterrupt_eq_none_iff.1 hp)
  refine ⟨k, hk, ?_⟩
  rw [State.interruptCheck, if_neg hm]
  dsimp only
  rw [woken_of_pending hm hp, if_pos hi, hk]

end

/-! ### The phases after an instruction or a wait -/

/-- Settles O11: each case of the interrupt check, after the devices. -/
theorem finishStepPhases : Obligations.FinishStepPhases := by
  intro s c d pending
  refine ⟨fun hm => ?stopped, fun hm hp => ?idle, fun hm hp hi => ?masked, fun hm hp hi => ?served⟩
  case stopped => rw [finishStep_eq s c _ _ (interruptCheck_stopped hm)]; rfl
  case idle => rw [finishStep_eq s c _ _ (interruptCheck_idle hm hp)]; rfl
  case masked => rw [finishStep_eq s c _ _ (interruptCheck_masked hm hp hi)]; rfl
  case served =>
    obtain ⟨k, hk, hcheck⟩ := interruptCheck_served hm hp hi
    refine ⟨k, hk, ?_⟩
    rw [finishStep_eq s c _ _ hcheck]
    rfl

end Sys2Proof.Machine
end

section
/-! SUPPORT. Whole steps (spec/60_exceptions.md R600, R604 to R608): which steps have a successor, what the phases after an
instruction or a wait can do to the registers and the control state, the delayed EI, and the waking of a halted or stopped
core. -/

namespace Sys2Proof.Machine

/-! ### Every instruction but an undefined opcode has a next state -/

theorem branch_next (cc : Cond) (taken : State → State) (m n : Nat) (s : State) : ∃ t, branch cc taken m n s = .next t := by
  unfold branch
  split <;> exact ⟨_, rfl⟩

theorem jpCond_next (cc : Cond) (nn : Word) (s : State) : ∃ t, jpCond cc nn s = .next t := branch_next _ _ _ _ s

theorem jrCond_next (cc : Cond) (e : Byte) (s : State) : ∃ t, jrCond cc e s = .next t := branch_next _ _ _ _ s

theorem callCond_next (cc : Cond) (nn : Word) (s : State) : ∃ t, callCond cc nn s = .next t := branch_next _ _ _ _ s

theorem retCond_next (cc : Cond) (s : State) : ∃ t, retCond cc s = .next t := branch_next _ _ _ _ s

theorem exec_next_or_undefined (i : Instr) (s : State) : (∃ t, exec i s = .next t) ∨ ∃ op, i = .undefined op := by
  cases i
  case undefined op => exact .inr ⟨op, rfl⟩
  case cbPrefix op2 => exact .inl (runCB_next op2 s)
  case jp_NZ_nn | jp_Z_nn | jp_NC_nn | jp_C_nn => exact .inl (jpCond_next _ _ s)
  case jr_NZ_e | jr_Z_e | jr_NC_e | jr_C_e => exact .inl (jrCond_next _ _ s)
  case call_NZ_nn | call_Z_nn | call_NC_nn | call_C_nn => exact .inl (callCond_next _ _ s)
  case ret_NZ | ret_Z | ret_NC | ret_C => exact .inl (retCond_next _ s)
  all_goals exact .inl ⟨_, rfl⟩

/-- The only fault is that of an undefined opcode under `stuck` (46_system.md R495). -/
theorem exec_cases (i : Instr) (s : State) : (∃ t, exec i s = .next t) ∨
    ∃ op, i = .undefined op ∧ s.params.illegalOpcodePolicy = .stuck ∧ exec i s = .fault (.stuckOnUndefinedOpcode op) := by
  obtain h | ⟨op, rfl⟩ := exec_next_or_undefined i s
  · exact .inl h
  · cases hpolicy : s.params.illegalOpcodePolicy with
    | nop => exact .inl ⟨_, execUndefined_of_nop op hpolicy⟩
    | stuck => exact .inr ⟨op, rfl, rfl, execUndefined_of_stuck op hpolicy⟩

/-! ### The step, by what its instruction answers -/

section
variable {s : State}

theorem step_of_next {u : State} (hm : s.mode = .running) (hu : exec s.applyEi.fetch s.applyEi.fetched = .next u) :
    step s = .next (u.finishStep u.cycles) := by
  rw [step, State.stepCore]
  rw [if_pos ((applyEi_mode s).trans hm), State.execute, hu]

theorem step_of_fault {r : Fault} (hm : s.mode = .running) (hr : exec s.applyEi.fetch s.applyEi.fetched = .fault r) :
    step s = .fault r := by
  rw [step, State.stepCore]
  rw [if_pos ((applyEi_mode s).trans hm), State.execute, hr]

theorem step_of_waiting (hm : s.mode ≠ .running) : step s = .next (s.applyEi.finishStep 4) := by
  rw [step, State.stepCore]
  rw [if_neg (by rwa [applyEi_mode])]
  rfl

end

theorem applyEi_fetch (s : State) : s.applyEi.fetch = s.fetch := by
  simp only [State.fetch, applyEi_readByte, applyEi_pc]

/-- A step answers a next state, or faults on the undefined opcode that a running core fetches under `stuck`. -/
theorem step_outcome (s : State) : (∃ t, step s = .next t) ∨
    (s.params.illegalOpcodePolicy = .stuck ∧ s.mode = .running ∧ s.readByte s.pc ∈ undefinedOpcodes ∧
      step s = .fault (.stuckOnUndefinedOpcode (s.readByte s.pc))) := by
  by_cases hm : s.mode = .running
  · obtain ⟨u, hu⟩ | ⟨op, hundef, hstuck, hr⟩ := exec_cases s.applyEi.fetch s.applyEi.fetched
    · exact .inl ⟨_, step_of_next hm hu⟩
    · rw [applyEi_fetch] at hundef
      obtain ⟨rfl, hop⟩ := decode3_eq_undefined_iff.1 hundef
      have hparams : s.applyEi.fetched.params = s.params := (applyEi_keepsRom s).params
      exact .inr ⟨hparams ▸ hstuck, hm, hop, step_of_fault hm hr⟩
  · exact .inl ⟨_, step_of_waiting hm⟩

/-- Settles O13: the two outcomes of a step exclude a refusal, and the fault names its reason. -/
theorem everyStepGoesOn : Obligations.EveryStepGoesOn := by
  refine ⟨fun s r h => ?notRefused, fun s hnop => ?nop, fun s r h => ?fault⟩
  all_goals obtain ⟨t, ht⟩ | ⟨hstuck, hm, hop, hfault⟩ := step_outcome s
  case notRefused.inl => rw [ht] at h; cases h
  case notRefused.inr => rw [hfault] at h; cases h
  case nop.inl => exact ⟨t, ht⟩
  case nop.inr => rw [hnop] at hstuck; cases hstuck
  case fault.inl => rw [ht] at h; cases h
  case fault.inr => rw [hfault] at h; cases h; exact ⟨hstuck, hm, hop, rfl⟩

/-! ### What the phases after an instruction or a wait can do -/

/-- Either no interrupt is taken, and beside the devices only the mode changes, or one is, and pc, SP and IME change too. -/
theorem finishStep_cases (s : State) (c : Nat) :
    (∃ m sc cd j p md, s.finishStep c =
      { s with mem := m, sysCounter := sc, countdown := cd, joy := j, periph := p, mode := md, returned := c }) ∨
    (s.mode ≠ .stopped ∧ s.ime = true ∧ ∃ m ca sc cd j p k, s.finishStep c =
      { s with mem := m, cart := ca, sysCounter := sc, countdown := cd, joy := j, periph := p, mode := .running,
               sp := s.sp - 2, pc := vector k, ime := false, returned := c + 20 }) := by
  obtain ⟨hstopped, hidle, hmasked, hserved⟩ := finishStepPhases s c
  obtain ⟨m, sc, cd, j, e⟩ := devicesAdvance_only s c
  change (s.timerAdvance c).peripheralsAdvance = _ at e
  rw [e] at hstopped hidle hmasked hserved
  by_cases hm : s.mode = .stopped
  · exact .inl ⟨_, _, _, _, _, _, hstopped hm⟩
  by_cases hp : ({ s with mem := m, sysCounter := sc, countdown := cd, joy := j, periph := s.periph.tail } : State).pending = 0
  · exact .inl ⟨_, _, _, _, _, _, hidle hm hp⟩
  by_cases hi : s.ime = true
  · obtain ⟨k, -, hk⟩ := hserved hm hp hi
    obtain ⟨m1, ca, sc1, cd1, e1, -⟩ := service_only { s with
      mem := m, sysCounter := sc, countdown := cd, joy := j, periph := s.periph.tail, mode := .running } k
    obtain ⟨m2, sc2, cd2, j2, e2⟩ := devicesAdvance_only { s with
      mem := m1, cart := ca, sysCounter := sc1, countdown := cd1, joy := j, periph := s.periph.tail, mode := .running,
      sp := s.sp - 2, pc := vector k, ime := false } 20
    change State.peripheralsAdvance _ = _ at e2
    rw [e1, e2] at hk
    exact .inr ⟨hm, hi, _, _, _, _, _, _, _, hk⟩
  · exact .inl ⟨_, _, _, _, _, _, hmasked hm hp (Bool.eq_false_iff.2 hi)⟩

section
variable (s : State) (c : Nat)

theorem finishStep_registers : let t := s.finishStep c
    t.a = s.a ∧ t.f = s.f ∧ t.b = s.b ∧ t.c = s.c ∧ t.d = s.d ∧ t.e = s.e ∧ t.h = s.h ∧ t.l = s.l := by
  obtain ⟨_, _, _, _, _, _, e⟩ | ⟨-, -, _, _, _, _, _, _, _, e⟩ := finishStep_cases s c <;> rw [e] <;>
    exact ⟨rfl, rfl, rfl, rfl, rfl, rfl, rfl, rfl⟩

theorem finishStep_returned : (s.finishStep c).returned = c ∨ (s.finishStep c).returned = c + 20 := by
  obtain ⟨_, _, _, _, _, _, e⟩ | ⟨-, -, _, _, _, _, _, _, _, e⟩ := finishStep_cases s c
  · exact .inl (by rw [e])
  · exact .inr (by rw [e])

/-- A step that returns no cycles of a service entry has taken none. -/
theorem finishStep_of_unserved (h : (s.finishStep c).returned = c) : let t := s.finishStep c
    t.pc = s.pc ∧ t.sp = s.sp ∧ t.ime = s.ime ∧ t.eiPending = s.eiPending := by
  obtain ⟨_, _, _, _, _, _, e⟩ | ⟨-, -, _, _, _, _, _, _, _, e⟩ := finishStep_cases s c
  · rw [e]
    exact ⟨rfl, rfl, rfl, rfl⟩
  · rw [e] at h
    exact absurd h (by simp)

/-- A step that returns more has taken one, and the core runs. -/
theorem finishStep_of_served (h : (s.finishStep c).returned ≠ c) : ∃ k, let t := s.finishStep c
    t.mode = .running ∧ t.ime = false ∧ t.pc = vector k ∧ t.sp = s.sp - 2 ∧ t.returned = c + 20 := by
  obtain ⟨_, _, _, _, _, _, e⟩ | ⟨-, -, _, _, _, _, _, _, k, e⟩ := finishStep_cases s c
  · rw [e] at h
    exact absurd rfl h
  · rw [e]
    exact ⟨k, rfl, rfl, rfl, rfl, rfl⟩

theorem finishStep_returned_of_not_served (h : s.mode = .stopped ∨ s.ime = false) : (s.finishStep c).returned = c := by
  obtain ⟨_, _, _, _, _, _, e⟩ | ⟨hm, hi, -⟩ := finishStep_cases s c
  · rw [e]
  · obtain h | h := h
    · exact absurd h hm
    · rw [h] at hi
      cases hi

end

/-! ### A pending EI and a step that waits (R604, R608) -/

theorem applyEi_only (s : State) : ∃ i p, s.applyEi = { s with ime := i, eiPending := p } := by
  unfold State.applyEi
  split <;> exact ⟨_, _, rfl⟩

theorem applyEi_sp (s : State) : s.applyEi.sp = s.sp := by
  obtain ⟨i, p, e⟩ := applyEi_only s
  rw [e]

theorem applyEi_periph (s : State) : s.applyEi.periph = s.periph := by
  obtain ⟨i, p, e⟩ := applyEi_only s
  rw [e]

theorem applyEi_cell (s : State) (k : Nat) : s.applyEi.cell k = s.cell k := by
  obtain ⟨i, p, e⟩ := applyEi_only s
  rw [e]
  rfl

theorem applyEi_of_pending {s : State} (h : s.eiPending = true) : s.applyEi = { s with ime := true, eiPending := false } :=
  if_pos h

theorem applyEi_of_not_pending {s : State} (h : s.eiPending = false) : s.applyEi = s :=
  if_neg (Bool.eq_false_iff.1 h)

/-- Settles O12: what the phases can do, from the state in which EI's delayed enable has taken effect. -/
theorem waitingStep : Obligations.WaitingStep := by
  intro s hm s0
  refine ⟨step_of_waiting hm, ?_⟩
  obtain ⟨i, p, e⟩ := applyEi_only s
  have hs0 : s0 = { s with ime := i, eiPending := p } := e
  rw [hs0]
  refine ⟨finishStep_registers _ 4, finishStep_returned _ 4, fun h => ?_,
    fun h => finishStep_returned_of_not_served _ 4 (.inl h)⟩
  obtain ⟨hpc, hsp, hime, -⟩ := finishStep_of_unserved _ 4 h
  exact ⟨hpc, hsp, hime⟩

/-- The instruction of a running core, when every reading of its operand bytes has the same meaning. -/
theorem step_of_opcode {s : State} {op : Byte} {f : State → State} (hm : s.mode = .running) (hop : s.readByte s.pc = op)
    (hexec : ∀ b1 b2 t, exec (decode3 op b1 b2) t = .next (f t)) :
    let u := f { s.applyEi with pc := s.pc + BitVec.ofNat 16 (instrLength op), cycles := 0 }
    step s = .next (u.finishStep u.cycles) := by
  have hfetched : s.applyEi.fetched =
      { s.applyEi with pc := s.pc + BitVec.ofNat 16 (instrLength op), cycles := 0 } := by
    rw [State.fetched, State.fetchLength, applyEi_pc, applyEi_readByte, hop]
  refine step_of_next hm ?_
  rw [applyEi_fetch, State.fetch, hop, hexec, hfetched]

/-- With IME clear the phases take no interrupt. -/
theorem finishStep_of_ime_false {s : State} (c : Nat) (h : s.ime = false) : let t := s.finishStep c
    t.ime = false ∧ t.eiPending = s.eiPending ∧ t.pc = s.pc ∧ t.sp = s.sp ∧ t.returned = c := by
  have hreturned := finishStep_returned_of_not_served s c (.inr h)
  obtain ⟨hpc, hsp, hime, hei⟩ := finishStep_of_unserved s c hreturned
  exact ⟨hime.trans h, hei, hpc, hsp, hreturned⟩

/-- Settles O56: phase 1 has no more to do in the state with IME set; EI and DI both leave the phases after them a clear IME. -/
theorem eiTakesEffectOneStepLate : Obligations.EiTakesEffectOneStepLate := by
  refine ⟨fun s hei => ?late, fun s hm hop hi hei => ?ei, fun s hm hop => ?di⟩
  case late =>
    have hsame : s.applyEi = ({ s with ime := true, eiPending := false } : State).applyEi :=
      (applyEi_of_pending hei).trans (applyEi_of_not_pending rfl).symm
    rw [step, State.stepCore, hsame]
    rfl
  case ei =>
    have hexec (b1 b2 : Byte) (t : State) :
        exec (decode3 0xFB b1 b2) t = .next { t with eiPending := true, cycles := t.cycles + 4 } := by
      obtain ⟨-, -, -, -, -, h⟩ := systemInstructions t b1 b2
      exact h
    have hstep := step_of_opcode hm hop hexec
    rw [applyEi_of_not_pending hei] at hstep
    exact ⟨_, hstep, finishStep_of_ime_false 4 hi⟩
  case di =>
    have hexec (b1 b2 : Byte) (t : State) :
        exec (decode3 0xF3 b1 b2) t = .next { t with ime := false, eiPending := false, cycles := t.cycles + 4 } := by
      obtain ⟨-, -, -, -, h, -⟩ := systemInstructions t b1 b2
      exact h
    refine ⟨_, step_of_opcode hm hop hexec, ?_⟩
    rw [← applyEi_sp s]
    exact finishStep_of_ime_false 4 rfl

/-! ### Waking (R605 to R607) -/

section
variable (s : State) (c : Nat)

theorem devicesAdvance_mode : (s.devicesAdvance c).mode = s.mode := by
  obtain ⟨m, sc, cd, j, e⟩ := devicesAdvance_only s c
  rw [e]

theorem devicesAdvance_ime : (s.devicesAdvance c).ime = s.ime := by
  obtain ⟨m, sc, cd, j, e⟩ := devicesAdvance_only s c
  rw [e]

theorem devicesAdvance_ieReg : (s.devicesAdvance c).ieReg = s.ieReg :=
  ((peripheralsAdvance_keeps _).cell 0xFFFF (by decide) (by decide)).trans
    (timerAdvance_cell_of_ne s c (by decide) (by decide) (by decide))

/-- The devices clear no request. -/
theorem devicesAdvance_requested {j : Nat} (h : s.ifReg.getLsbD j = true) : (s.devicesAdvance c).ifReg.getLsbD j = true := by
  refine (peripheralsAdvance_keeps _).requested j ?_
  rw [timerAdvance_ifReg]
  split
  · exact h
  · rw [BitVec.getLsbD_or, h, Bool.true_or]

/-- The timer requests its own interrupt alone, and peripherals without a move none. -/
theorem devicesAdvance_joypadBit (hperiph : s.periph = []) : (s.devicesAdvance c).ifReg.getLsbD 4 = s.ifReg.getLsbD 4 := by
  have hnone : (s.timerAdvance c).periph = [] := by
    obtain ⟨m, sc, cd, e⟩ := timerAdvance_only s c
    rw [e]
    exact hperiph
  rw [State.devicesAdvance, peripheralsAdvance_of_nil hnone, timerAdvance_ifReg]
  split
  · rfl
  · rw [BitVec.getLsbD_or]
    exact Bool.or_false _

/-- So what is pending stays pending. -/
theorem devicesAdvance_pending (h : s.pending ≠ 0) : (s.devicesAdvance c).pending ≠ 0 := by
  refine mt (fun hnone => and_sourceMask_eq_zero_iff.2 fun k hk => ?_) h
  have hbit := and_sourceMask_eq_zero_iff.1 hnone k hk
  rw [devicesAdvance_ieReg, BitVec.getLsbD_and, Bool.and_eq_false_iff] at hbit
  rw [BitVec.getLsbD_and, Bool.and_eq_false_iff]
  exact hbit.imp_left fun hclear => Bool.eq_false_iff.2 fun hset =>
    absurd (devicesAdvance_requested s c hset) (Bool.eq_false_iff.1 hclear)

end

theorem step_of_halted {s : State} (hm : s.mode = .halted) (hei : s.eiPending = false) :
    step s = .next (s.finishStep 4) := by
  rw [step_of_waiting (by rw [hm]; decide), applyEi_of_not_pending hei]

theorem devicesAdvance_awake {s : State} (hm : s.mode = .halted) (c : Nat) : (s.devicesAdvance c).mode ≠ .stopped := by
  rw [devicesAdvance_mode, hm]
  decide

/-- A stopped core takes no interrupt, and runs again exactly if IF bit 4 is set after the devices. -/
theorem step_of_stopped {s : State} (hm : s.mode = .stopped) : ∃ t, step s = .next t ∧
    t.mode = (if (s.applyEi.devicesAdvance 4).ifReg.getLsbD 4 then .running else .stopped) ∧
    t.pc = s.pc ∧ t.sp = s.sp ∧ t.returned = 4 ∧ t.ifReg = (s.applyEi.devicesAdvance 4).ifReg := by
  have hm' : s.applyEi.mode = .stopped := (applyEi_mode s).trans hm
  have hreturned := finishStep_returned_of_not_served s.applyEi 4 (.inl hm')
  obtain ⟨hpc, hsp, -⟩ := finishStep_of_unserved s.applyEi 4 hreturned
  obtain ⟨hstopped, -⟩ := finishStepPhases s.applyEi 4
  have hfinish := hstopped ((devicesAdvance_mode _ 4).trans hm')
  refine ⟨_, step_of_waiting (by rw [hm]; decide), ?_, hpc.trans (applyEi_pc s), hsp.trans (applyEi_sp s), hreturned, ?_⟩
  · rw [hfinish]
    rfl
  · rw [hfinish]
    rfl

/-- Settles O57: the devices clear no request, so what was pending before them is pending in the check. -/
theorem wakingUp : Obligations.WakingUp := by
  refine ⟨fun s hm hei hp hi => ?masked, fun s hm hei hp hi => ?served, fun s hm hbit => ?wakes,
    fun s hm hbit hperiph => ?stays⟩
  case masked =>
    have hstep := step_of_halted hm hei
    obtain ⟨-, -, hmasked, -⟩ := finishStepPhases s 4
    have hfinish := hmasked (devicesAdvance_awake hm 4) (devicesAdvance_pending s 4 hp) ((devicesAdvance_ime s 4).trans hi)
    obtain ⟨hime, -, hpc, hsp, hreturned⟩ := finishStep_of_ime_false 4 hi
    refine ⟨_, hstep, by rw [hfinish], hime, hpc, hsp, hreturned, fun j hj => ?_⟩
    rw [hfinish]
    exact devicesAdvance_requested s 4 hj
  case served =>
    obtain ⟨-, -, -, hserved⟩ := finishStepPhases s 4
    obtain ⟨k, -, hfinish⟩ :=
      hserved (devicesAdvance_awake hm 4) (devicesAdvance_pending s 4 hp) ((devicesAdvance_ime s 4).trans hi)
    have hreturned : (s.finishStep 4).returned = 24 := by rw [hfinish]
    obtain ⟨k', ht⟩ := finishStep_of_served s 4 (by rw [hreturned]; decide)
    exact ⟨_, k', step_of_halted hm hei, ht⟩
  case wakes =>
    obtain ⟨t, hstep, hmode, hpc, hsp, hreturned, hif⟩ := step_of_stopped hm
    have hset : (s.applyEi.devicesAdvance 4).ifReg.getLsbD 4 = true :=
      devicesAdvance_requested _ 4 ((congrArg (BitVec.getLsbD · 4) (applyEi_cell s _)).trans hbit)
    exact ⟨t, hstep, hmode.trans (if_pos hset), hpc, hsp, hreturned, (congrArg (BitVec.getLsbD · 4) hif).trans hset⟩
  case stays =>
    obtain ⟨t, hstep, hmode, hpc, hsp, hreturned, -⟩ := step_of_stopped hm
    have hclear : (s.applyEi.devicesAdvance 4).ifReg.getLsbD 4 = false := by
      rw [devicesAdvance_joypadBit _ 4 ((applyEi_periph s).trans hperiph)]
      exact (congrArg (BitVec.getLsbD · 4) (applyEi_cell s _)).trans hbit
    exact ⟨t, hstep, hmode.trans (by rw [hclear]; rfl), hpc, hsp, hreturned⟩

end Sys2Proof.Machine
end

section
/-! SUPPORT. What an instruction costs and what a step returns (spec/70_reset_and_hazards.md R714 to R716, spec/60_exceptions.md
R603). -/

namespace Sys2Proof.Machine

/-! ### The two counts of an encoding -/

/-- The clock cycles of the CB table, by the fields of its second byte: 12 for BIT at `(HL)`, 16 for the others there, 8 for the
registers (R715). -/
def cbCount (b1 : Byte) : Nat :=
  if b1.extractLsb' 0 3 ≠ 6#3 then 8 else if b1.extractLsb' 6 2 = 1#2 then 12 else 16

/-- The entry of an opcode in the primary table (R715). -/
def primaryCounts (b0 : Byte) : Option (Nat × Nat) := (cycleTable[b0.toNat / 16]?.getD [])[b0.toNat % 16]?

/-- The clock cycles, taken and not taken, of the instruction that begins with two bytes. -/
def cycleCounts (b0 b1 : Byte) : Option (Nat × Nat) :=
  if b0 = 0xCB then some (cbCount b1, cbCount b1) else primaryCounts b0

theorem cycleCounts_of_cb {b0 b1 : Byte} (h : b0 = 0xCB) : cycleCounts b0 b1 = some (cbCount b1, cbCount b1) := if_pos h

theorem cycleCounts_of_ne {b0 b1 : Byte} (h : b0 ≠ 0xCB) : cycleCounts b0 b1 = primaryCounts b0 := if_neg h

/-- A meaning's answer in `s`, if it is a next state, has added to the cycles the count of its instruction's bytes. -/
def ResultCosts (bytes : List Byte) (s : State) (r : Result) : Prop :=
  ∃ taken notTaken, cycleCounts (bytes.getD 0 0) (bytes.getD 1 0) = some (taken, notTaken) ∧
    ∀ t, r = .next t → t.cycles = s.cycles + if conditionHolds (bytes.getD 0 0) s then taken else notTaken

section
variable {bytes rest : List Byte} {op : Byte} {s t : State} {m n : Nat}

/-- An instruction without a condition: what it does before it spends its count leaves the cycles. -/
theorem ResultCosts.spend (hbytes : bytes = op :: rest) (hcounts : cycleCounts op (rest.getD 0 0) = some (n, n))
    (ht : t.cycles = s.cycles) : ResultCosts bytes s (.next (t.spend n)) := by
  subst hbytes
  refine ⟨n, n, hcounts, ?_⟩
  rintro _ ⟨⟩
  rw [spend_cycles, ht, ite_self]

/-- A conditional transfer: its condition is that of the opcode (30_encoding.md R136). -/
theorem branch_costs {cc : Cond} {taken : State → State} (hbytes : bytes = op :: rest)
    (hcounts : cycleCounts op (rest.getD 0 0) = some (m, n)) (hcond : s.cond cc = conditionHolds op s)
    (ht : (taken s).cycles = s.cycles) : ResultCosts bytes s (branch cc taken m n s) := by
  subst hbytes
  refine ⟨m, n, hcounts, ?_⟩
  rintro _ ⟨⟩
  rw [hcond, List.getD_cons_zero]
  split_ifs
  · rw [spend_cycles, ht]
  · rw [spend_cycles]

theorem call_cycles (s : State) (w : Word) : (s.call w).cycles = s.cycles := push16_cycles s s.pc

theorem cycleCounts_undefined {b1 : Byte} (h : op ∈ undefinedOpcodes) : cycleCounts op b1 = some (4, 4) := by
  revert op
  simp only [undefinedOpcodes, List.forall_mem_cons]
  exact ⟨rfl, rfl, rfl, rfl, rfl, rfl, rfl, rfl, rfl, rfl, rfl, nofun⟩

theorem execUndefined_costs (h : op ∈ undefinedOpcodes) : ResultCosts [op] s (execUndefined op s) := by
  unfold execUndefined
  split
  · exact .spend rfl (cycleCounts_undefined h) rfl
  · exact ⟨4, 4, cycleCounts_undefined h, nofun⟩

section
variable {cc : Cond} (hbytes : bytes = op :: rest) (hcond : s.cond cc = conditionHolds op s)
include hbytes hcond

theorem jpCond_costs (hcounts : cycleCounts op (rest.getD 0 0) = some (16, 12)) (nn : Word) :
    ResultCosts bytes s (jpCond cc nn s) :=
  branch_costs (taken := fun s => s.jump nn) hbytes hcounts hcond rfl

theorem jrCond_costs (hcounts : cycleCounts op (rest.getD 0 0) = some (12, 8)) (e : Byte) :
    ResultCosts bytes s (jrCond cc e s) :=
  branch_costs (taken := fun s => s.jump (s.pc + sext e)) hbytes hcounts hcond rfl

theorem callCond_costs (hcounts : cycleCounts op (rest.getD 0 0) = some (24, 12)) (nn : Word) :
    ResultCosts bytes s (callCond cc nn s) :=
  branch_costs (taken := fun s => s.call nn) hbytes hcounts hcond (call_cycles s nn)

theorem retCond_costs (hcounts : cycleCounts op (rest.getD 0 0) = some (20, 8)) : ResultCosts bytes s (retCond cc s) :=
  branch_costs hbytes hcounts hcond rfl

end

end

/-- Every instruction costs the counts of its encoding. A conditional transfer and a CPU write have their lemmas; every other meaning
spends its one count after updates that leave the cycles by definition. -/
theorem exec_costs {i : Instr} (hwf : wellFormed i = true) (s : State) :
    ResultCosts (encode i) s (exec i s) := by
  cases i
  case cbPrefix => cases hwf
  case undefined op => exact execUndefined_costs (List.contains_iff_mem.1 hwf)
  case jp_NZ_nn nn | jp_Z_nn nn | jp_NC_nn nn | jp_C_nn nn => exact jpCond_costs rfl rfl rfl nn
  case jr_NZ_e e | jr_Z_e e | jr_NC_e e | jr_C_e e => exact jrCond_costs rfl rfl rfl e
  case call_NZ_nn nn | call_Z_nn nn | call_NC_nn nn | call_C_nn nn => exact callCond_costs rfl rfl rfl nn
  case ret_NZ | ret_Z | ret_NC | ret_C => exact retCond_costs rfl rfl rfl
  case call_nn | rst_00H | rst_08H | rst_10H | rst_18H | rst_20H | rst_28H | rst_30H | rst_38H =>
    exact .spend rfl rfl (call_cycles s _)
  case push_BC | push_DE | push_HL | push_AF => exact .spend rfl rfl (push16_cycles s _)
  case ld_mnn_SP => exact .spend rfl rfl (writeWord_cycles s _ _)
  case ld_mHL_B | ld_mHL_C | ld_mHL_D | ld_mHL_E | ld_mHL_H | ld_mHL_L | ld_mHL_A | ld_mHL_n | ldh_mn_A | ld_mnn_A
      | ld_mBC_A | ld_mDE_A | ldh_mC_A | ld_mHLI_A | ld_mHLD_A | inc_mHL | dec_mHL
      | rlc_mHL | rrc_mHL | rl_mHL | rr_mHL | sla_mHL | sra_mHL | swap_mHL | srl_mHL
      | res_0_mHL | res_1_mHL | res_2_mHL | res_3_mHL | res_4_mHL | res_5_mHL | res_6_mHL | res_7_mHL
      | set_0_mHL | set_1_mHL | set_2_mHL | set_3_mHL | set_4_mHL | set_5_mHL | set_6_mHL | set_7_mHL =>
    exact .spend rfl rfl (writeByte_cycles s _ _)
  all_goals exact .spend rfl rfl rfl

/-- Settles O15: of the two tables, the first byte selects the one of the encoding. -/
theorem instructionCosts : Obligations.InstructionCosts := by
  intro i s t hwf h b0 b1
  obtain ⟨taken, notTaken, hcounts, hcost⟩ := exec_costs hwf s
  have ht : t.cycles = s.cycles + if conditionHolds b0 s then taken else notTaken := hcost t h
  by_cases hcb : b0 = 0xCB
  · rw [if_pos hcb]
    cases (cycleCounts_of_cb hcb).symm.trans hcounts
    rwa [ite_self] at ht
  · rw [if_neg hcb]
    exact ⟨taken, notTaken, (cycleCounts_of_ne hcb).symm.trans hcounts, ht⟩

/-! ### The bounds of a step -/

/-- What every count of the tables is (R716). -/
abbrev CountBounds (n : Nat) : Prop := 4 ≤ n ∧ n ≤ 24 ∧ n % 4 = 0

theorem cbCount_bounds (b1 : Byte) : CountBounds (cbCount b1) := by
  unfold cbCount
  split_ifs <;> decide

/-- Every entry but the unused one of the prefix. -/
theorem primaryCounts_bounds : ∀ b0 : Byte, b0 ≠ 0xCB → ∀ c ∈ primaryCounts b0, CountBounds c.1 ∧ CountBounds c.2 := by
  decide

theorem cycleCounts_bounds {b0 b1 : Byte} {m n : Nat} (h : cycleCounts b0 b1 = some (m, n)) : CountBounds m ∧ CountBounds n := by
  by_cases hcb : b0 = 0xCB
  · cases (cycleCounts_of_cb hcb).symm.trans h
    exact ⟨cbCount_bounds b1, cbCount_bounds b1⟩
  · rw [cycleCounts_of_ne hcb] at h
    exact primaryCounts_bounds b0 hcb (m, n) h

/-- The instruction that a step fetches starts from no cycles, and it is well-formed, so it ends at a count of the tables. -/
theorem execute_cycles {s t : State} (h : exec s.fetch s.fetched = .next t) : CountBounds t.cycles := by
  obtain ⟨taken, notTaken, hcounts, hcost⟩ := exec_costs (wellFormed_decode3 _ _ _) s.fetched
  obtain ⟨htaken, hnot⟩ := cycleCounts_bounds hcounts
  have hzero : s.fetched.cycles = 0 := rfl
  rw [hcost t h, hzero, Nat.zero_add]
  split_ifs
  · exact htaken
  · exact hnot

/-- A service entry adds its 20 cycles (60_exceptions.md R603). -/
theorem finishStep_returned_bounds {s : State} {c : Nat} (hc : CountBounds c) : let n := (s.finishStep c).returned
    4 ≤ n ∧ n ≤ 44 ∧ n % 4 = 0 := by
  obtain h | h := finishStep_returned s c <;> rw [h] <;> omega

/-- Settles O14: a step counts its instruction or the 4 cycles of a wait, and the longest of them with a service entry is 44. -/
theorem stepReturnsFourToFortyFour : Obligations.StepReturnsFourToFortyFour := by
  intro s t h
  obtain ⟨u, hu, rfl⟩ | rfl := step_cases h
  · exact finishStep_returned_bounds (execute_cycles hu)
  · exact finishStep_returned_bounds (by decide)

end Sys2Proof.Machine
end
